-- ==== Sys2Proof/Word.lean ====
section
/-! DEFINITION. The data units every format of the part uses: the byte, the sixteen-bit word, the phase, and a triple with
one component for each phase. -/

namespace Sys2Proof

/-- One byte of a frame, an image or a payload (R187). -/
abbrev Byte := BitVec 8

/-- A sixteen-bit word: a feeder code or a check value (R92). -/
abbrev Word16 := BitVec 16

/-- The three phases of the feeder; searches take them in the order A, B, C (scope, "Phases, currents and voltages"). -/
inductive Phase where
  | A | B | C
deriving DecidableEq, Repr

/-- The phases in the order the part searches them. -/
def Phase.all : List Phase := [.A, .B, .C]

/-- One value for each phase. -/
structure Ph3 (α : Type) where
  a : α
  b : α
  c : α
deriving DecidableEq, Repr

/-- The component of one phase. -/
def Ph3.get {α : Type} (v : Ph3 α) : Phase → α
  | .A => v.a
  | .B => v.b
  | .C => v.c

/-- The triple with the component of one phase replaced. -/
def Ph3.set {α : Type} (v : Ph3 α) (p : Phase) (x : α) : Ph3 α :=
  match p with
  | .A => { v with a := x }
  | .B => { v with b := x }
  | .C => { v with c := x }

/-- The triple with one function applied to every component. -/
def Ph3.map {α β : Type} (f : α → β) (v : Ph3 α) : Ph3 β := ⟨f v.a, f v.b, f v.c⟩

/-- The triple whose three components are equal. -/
def Ph3.same {α : Type} (x : α) : Ph3 α := ⟨x, x, x⟩

/-- A vector of phase currents in 0.1 A, written (A, B, C). -/
abbrev Vec := Ph3 Int

/-- A set of phases. -/
abbrev PhaseSet := Ph3 Bool

end Sys2Proof
end

