-- ==== Sys2Proof/Syntax.lean ====
section
/-! DEFINITION. The commands of the part: one constructor for each row of the table of operations and events, with the
operands the spec gives the event. -/

namespace Sys2Proof

/-- The direction of a zero crossing: high to low is negative-going, low to high is positive-going (R1). -/
inductive Edge where
  | negative | positive
deriving DecidableEq, Repr

/-- One entry of a measurement record: a signed active current in 0.1 A and its valid mark (section 1.4). -/
structure Reading where
  value : Int
  valid : Bool
deriving DecidableEq, Repr

/-- One command: an operation or event of the table, in the table's order.
An answer of a transfer module carries the connection index it names, the path it names where its kind has one, and whether its
check value is good (R57).
A frame row carries the bytes assembled between the rise and the fall of carrier-detect (R98).
A request row carries the payload of a complete service frame whose check value is good (R177). -/
inductive Instr where
  | powerOnReset
  | pornRise
  | readAttemptSuccess (image : List Byte)
  | readAttemptFailure
  | busHeldLowTimeout
  | readRetryWaitExpiry
  | resetnFall
  | resetnRise
  | crossing (p : Phase) (e : Edge)
  | secondsTick
  | crossingWatchExpiry (p : Phase)
  | dataReady (window : Byte)
  | recordAbandoned
  | acceptedRecord (readings : List Reading) (volts : Ph3 Nat)
  | measurementStale
  | dwellEnd (i : Nat)
  | recoveryRetryDue (i : Nat)
  | ready (i : Nat) (path : Option Phase) (good : Bool)
  | notReady (i : Nat) (good : Bool)
  | opened (i : Nat) (good : Bool)
  | nak (i : Nat) (good : Bool)
  | closed (i : Nat) (p : Phase) (good : Bool)
  | queryAnswer (i : Nat) (path : Option Phase) (good : Bool)
  | armTimeout
  | breakTimeout
  | closedTimeout
  | queryTimeout
  | gapLimit
  | fallbackWaitLimit
  | recoveryWaitLimit
  | samplingWindowEnd
  | monitoringWindowEnd
  | throttleExpiry
  | lcdActive
  | loadFrame (bytes : List Byte)
  | intentFrame (bytes : List Byte)
  | outcomeFrame (bytes : List Byte)
  | holdFrame (bytes : List Byte)
  | discardedFrame (bytes : List Byte)
  | staleAge (slot : Nat)
  | forgetAge (slot : Nat)
  | intentLifetimeEnd (slot : Nat)
  | peerHoldEnd (slot : Nat)
  | quietGap
  | deferralEnd
  | transmissionComplete
  | holdRemainingEnd
  | evaluationTimerExpiry
  | reportTimerExpiry
  | announceLimitExpiry
  | listenTimerExpiry
  | ownLifetimeExpiry
  | ownHoldEnd
  | listenOnlyTimerExpiry
  | status (payload : List Byte)
  | readConnection (payload : List Byte)
  | readNeighbour (payload : List Byte)
  | readEvents (payload : List Byte)
  | clearEvents (payload : List Byte)
  | release (payload : List Byte)
  | override (payload : List Byte)
  | lock (payload : List Byte)
  | hold (payload : List Byte)
  | restart (payload : List Byte)
  | ident (payload : List Byte)
  | malformedFrame (bytes : List Byte)
  | serviceByteGap
  | overrun
  | responseEnd
  | lcdInactive
  | unknownRequestKind (kind : Byte) (payload : List Byte)
  | droppedFrameEnd
deriving DecidableEq, Repr

end Sys2Proof
end

