-- ==== Sys2Proof/Decode.lean ====
section
/-! DEFINITION. Commands spelled by the bits of the table: no row of this block's table gives bits (every row's fields
are empty), so no word spells a command. The byte layouts of the line frames, the image and the service frames are read in
Machine/Operands.lean. -/

namespace Sys2Proof

/-- The command a word spells by the table's bits. The table gives no row bits, so none is ever spelled.
(DESIGN CHOICE, log entry 4, safe) -/
def decodeTableWord (_nbits _w : Nat) : Option Instr := none

end Sys2Proof
end

