-- ==== Sys2Proof/Config.lean ====
section
/-! DEFINITION. What one part fixes and the spec leaves open: the random draws, the silicon revision letter, and one bit
of a response the formats chapter does not settle. None has a body, so no proof can rest on a value. -/

namespace Sys2Proof

/-- The part's random source: the n-th raw draw since power first came (scope, "Random draws": any value in the stated
range may result). (DESIGN CHOICE, log entry 7, safe) -/
opaque Config.draw : Nat → Nat

/-- The silicon revision of this part, as the position of its letter in the alphabet (R186: the letter is fixed in the
part and not stated). (DESIGN CHOICE, log entry 22, safe) -/
opaque Config.revision : Nat

/-- Whether READ NEIGHBOUR shows its one presence bit set for an entry that holds a vector but no counts and flags
(section 12.4 gives the three one bit and does not say). (DESIGN CHOICE, log entry 23, safe) -/
opaque Config.partialShown : Bool

end Sys2Proof
end

