-- ==== Sys2Proof/Machine/State.lean ====
section
/-! DEFINITION. The state of the station, block by block as the spec's block diagram gives it, as plain data; the reasons a
step could stop; and the state right after a power-on reset. -/

namespace Sys2Proof.Machine

/-! ### Station mode, configuration loader and overrides (chapter 10) -/

/-- The station mode (section 10.3). -/
inductive Mode where
  | loading | configFault | inventory | listenOnly | active | blackout
deriving DecidableEq, Repr

/-- The attribute of a connection (R18). -/
inductive Attr where
  | movable | fixed | excluded
deriving DecidableEq, Repr

/-- Where the reading of the configuration image stands in LOADING (R165): no attempt begun, an attempt under way, or the
100 ms wait after a failed attempt. -/
inductive Loader where
  | idle | reading | waiting
deriving DecidableEq, Repr

/-- The quantity a comparator watches (R150). -/
inductive Source where
  | feederNeutral | localNeutral | feederPhase (p : Phase) | localPhase (p : Phase) | way (k : Nat) (p : Phase)
deriving DecidableEq, Repr

/-- The condition of a comparator (R151). -/
inductive Cond where
  | above | below | atOrAbove | atOrBelow
deriving DecidableEq, Repr

/-- The action of a comparator (R153). -/
inductive Action where
  | flag | evaluate | hold
deriving DecidableEq, Repr

/-- A comparator definition (R150). -/
structure CompDef where
  enable : Bool
  source : Source
  cond : Cond
  value : Int
  action : Action
deriving DecidableEq, Repr

/-- What the image says of one connection, after the clamps of R19. -/
structure ConnCfg where
  attr : Attr
  allowed : PhaseSet
  home : Phase
deriving DecidableEq, Repr

/-- The loaded configuration: the image as read, checked and clamped (R163, section 10.1). -/
structure Cfg where
  version : Nat
  address : Nat
  feeder : Word16
  mains : Nat
  count : Nat
  bounds : List Nat
  ratings : List Nat
  conns : List ConnCfg
  pMax : Nat
  gainFloor : Nat
  minMove : Nat
  evalInt : Nat
  dwell : Nat
  announce : Nat
  listen : Nat
  lifetime : Nat
  report : Nat
  sampling : Nat
  threshold : Nat
  throttle : Nat
  monitoring : Nat
  monMax : Nat
  lossThr : Nat
  holdTime : Nat
  mask : BitVec 14
  manual : Bool
  comps : List CompDef
deriving DecidableEq, Repr

/-- The settings of a part that has taken no image: no connection is configured. It stands in only for the reading of a
setting before the end of LOADING, which no rule asks for. (DESIGN CHOICE, log entry 12, safe) -/
def Cfg.blank : Cfg where
  version := 0
  address := 0
  feeder := 0
  mains := 50
  count := 0
  bounds := [0, 0, 0, 0]
  ratings := [2500, 2500, 2500, 2500]
  conns := []
  pMax := 2
  gainFloor := 50
  minMove := 20
  evalInt := 120
  dwell := 900
  announce := 10
  listen := 4
  lifetime := 20
  report := 30
  sampling := 900
  threshold := 12
  throttle := 4
  monitoring := 300
  monMax := 1
  lossThr := 1900
  holdTime := 120
  mask := 0
  manual := false
  comps := []

/-- Configuration loader and station mode: the mode, the listen-only timer (R171), the override table and the overrides-open
state (R20, R174), and the progress of loading (R165). -/
structure Station where
  mode : Mode
  listenOnly : Option Nat
  overridesOpen : Bool
  overrides : List (Option Attr)
  loader : Loader
  failures : Nat
deriving DecidableEq, Repr

/-! ### Input pins -/

/-- The input levels the part looks at between events: PORN low, RESETN low, carrier-detect active, and the level of each
zero-crossing input after its last crossing (true is high). -/
structure Pins where
  pornLow : Bool
  resetnLow : Bool
  lcd : Bool
  zc : Ph3 Bool
deriving DecidableEq, Repr

/-! ### Timebase and phase supervision (chapter 1) -/

/-- The source of the seconds tick (R5). -/
inductive TickSource where
  | mains | holdover
deriving DecidableEq, Repr

/-- The timebase: the cycle counter and its alignment (R2, R3), the reference phase and its changeover (R4), the source of
the seconds tick, its divider, and the ticks the divider has given and no block has taken yet (R5).
`changing` holds between a change of reference and the first negative-going crossing of the new one; `countedSince` says of
each phase whether a count has been made since that phase's previous negative-going crossing. -/
structure Time where
  counter : BitVec 32
  aligned : Bool
  ref : Option Phase
  changing : Bool
  countedSince : Ph3 Bool
  source : TickSource
  divider : Nat
  ticksDue : Nat
deriving DecidableEq, Repr

/-- What phase supervision holds for one phase (section 1.3): presence, whether its crossing watch is running, the
crossing-seen mark and the return count. -/
structure PhaseSup where
  present : Bool
  watch : Bool
  mark : Bool
  returns : Nat
deriving DecidableEq, Repr

/-! ### Measurement (chapter 1) -/

/-- The held state of one connection's reading (section 1.5). -/
structure Held where
  value : Int
  saturated : Bool
  unmeasured : Bool
  invalid : Nat
  preMove : Option Int
deriving DecidableEq, Repr

/-- The measurement block: held readings, the last accepted window number (R11), the record being read (R10), the local
vector (R13), the way currents (R14) and freshness with its age (R15). -/
structure Meas where
  held : List Held
  lastWindow : Option Byte
  reading : Option Byte
  vec : Vec
  ways : List Vec
  fresh : Bool
  age : Nat
deriving DecidableEq, Repr

/-! ### Connection table (chapter 2) -/

/-- The state of a connection (section 2.4). -/
inductive ConnState where
  | steady | moving | resting | faulted | dark | darkLocked | unconfigured
deriving DecidableEq, Repr

/-- The kind of a recovery set member (R29). -/
inductive RecKind where
  | recover | check
deriving DecidableEq, Repr

/-- Recovery set membership: kind and retry remaining in seconds (R29). -/
structure Member where
  kind : RecKind
  retry : Nat
deriving DecidableEq, Repr

/-- What the record notes of its move while MOVING (R24). -/
structure MoveNote where
  rescue : Bool
  src : Phase
  dst : Phase
deriving DecidableEq, Repr

/-- The part of a connection record that changes (section 2.1). Attribute, allowed set, home phase and way stand in the
loaded configuration and the override table. `unticked` is the model's own: it marks a connection that a rescue left RESTING with no
dwell and that no seconds tick has met since (R25, R28). -/
structure Conn where
  st : ConnState
  cur : Option Phase
  dwell : Nat
  attempts : Nat
  releasePending : Bool
  member : Option Member
  note : Option MoveNote
  unticked : Bool
deriving DecidableEq, Repr

/-! ### Transfer engine (chapter 4) -/

/-- The step of a move (section 4.4). BREAKING is told apart by what it waits for: a crossing, the answer to BREAK, or the
answer to the QUERY that follows; FALLBACK by waiting for its target's crossing or for the answer to its MAKE. -/
inductive MoveStep where
  | arming | breakWait | breakSent | breakQuery | gap | making | fbWait (t : Phase) | fbMake (t : Phase) | settling
deriving DecidableEq, Repr

/-- A balancing or rescue move in flight (R59). `cycles` is what is left of its running timeout or wait. -/
structure MoveReq where
  rescue : Bool
  conn : Nat
  src : Phase
  dst : Phase
  cur : Int
  pos : Nat
  step : MoveStep
  cycles : Nat
deriving DecidableEq, Repr

/-- The stage of a recovery transfer (R73). -/
inductive RecStep where
  | query | wait (t : Phase) | make (t : Phase)
deriving DecidableEq, Repr

/-- The request in flight (R59). -/
inductive Req where
  | move (m : MoveReq)
  | recovery (conn : Nat) (step : RecStep) (cycles : Nat)
  | check (conn : Nat) (cycles : Nat)
  | inventory (conn : Nat) (cycles : Nat)
deriving DecidableEq, Repr

/-- A command on the module link (section 4.1). -/
inductive ModCmd where
  | arm (i : Nat) | break (i : Nat) | make (i : Nat) (p : Phase) | query (i : Nat)
deriving DecidableEq, Repr

/-- A rescue list entry (R76). -/
structure RescueEntry where
  conn : Nat
  cur : Int
  lost : Phase
deriving DecidableEq, Repr

/-- The transfer engine: the request in flight (absent when FREE), the rescue list oldest first, the rescue-done mark
(R78), and the next index inventory queries (R75). -/
structure Engine where
  req : Option Req
  rescue : List RescueEntry
  rescueDone : Bool
  invNext : Nat
deriving DecidableEq, Repr

/-! ### Switching budget (chapter 5) -/

/-- The switching budget (section 5.1). -/
structure Budget where
  throttled : Bool
  running : Bool
  sampCount : Nat
  sampLeft : Nat
  throttleLeft : Nat
  monLeft : Nat
  monCount : Nat
deriving DecidableEq, Repr

/-! ### Line access and frames (chapter 6) -/

/-- The reason of a hold (R97). -/
inductive Reason where
  | darkConnection | comparator | service
deriving DecidableEq, Repr

/-- The result of one move (R96). -/
inductive MoveResult where
  | done | skipped | failed
deriving DecidableEq, Repr

/-- A move as announced: no connection index (R95). -/
structure FMove where
  src : Phase
  dst : Phase
  cur : Int
deriving DecidableEq, Repr

/-- The body of a LOAD frame (R93). -/
structure LoadBody where
  vec : Vec
  counts : Ph3 Nat
  executing : Bool
  concluded : Nat
  last : Option Byte
  stale : Bool
  throttled : Bool
deriving DecidableEq, Repr

/-- The body of an INTENT frame (R95). -/
structure IntentBody where
  num : Byte
  life : Nat
  moves : List FMove
deriving DecidableEq, Repr

/-- The body of an OUTCOME frame (R96). -/
structure OutcomeBody where
  num : Byte
  completed : Bool
  results : List MoveResult
  vec : Vec
deriving DecidableEq, Repr

/-- The body of a HOLD frame (R97). -/
structure HoldBody where
  dur : Nat
  reason : Reason
deriving DecidableEq, Repr

/-- The body of a line frame, by kind. -/
inductive Frame where
  | load (b : LoadBody)
  | intent (b : IntentBody)
  | outcome (b : OutcomeBody)
  | hold (b : HoldBody)
deriving DecidableEq, Repr

/-- An OUTCOME in the queue: unripe while its vector is absent (R96). -/
structure QOutcome where
  num : Byte
  completed : Bool
  results : List MoveResult
  vec : Option Vec
deriving DecidableEq, Repr

/-- The access state (section 6.4). A quiet gap is absent while the carrier is awaited to end, and otherwise carries the
cycles counted since its start; DEFER and FROZEN carry the deferral count. -/
inductive Access where
  | idle | gap (g : Option Nat) | defer (n : Nat) | frozen (n : Nat) (g : Option Nat) | sending
deriving DecidableEq, Repr

/-- Frame assembly (R98): none, under way since the rise of carrier-detect, or ended at its fall and not yet validated. -/
inductive Assembly where
  | none | underWay | ended
deriving DecidableEq, Repr

/-- The record snapshot (R94). -/
structure Snapshot where
  vec : Vec
  counts : Ph3 Nat
  executing : Bool
  concluded : Nat
  last : Option Byte
deriving DecidableEq, Repr

/-- The line block: the four places of the transmit queue (R101), the access state, the frame in transmission, frame
assembly and the record snapshot. -/
structure Line where
  qHold : Option HoldBody
  qOutcome : Option QOutcome
  qIntent : Option IntentBody
  qLoad : Option LoadBody
  access : Access
  tx : Option Frame
  assembly : Assembly
  snap : Snapshot
deriving DecidableEq, Repr

/-! ### Neighbour table (chapter 7) -/

/-- What only a LOAD brings: connection counts and flags, present or absent together (R109). -/
structure LoadInfo where
  counts : Ph3 Nat
  stale : Bool
  throttled : Bool
  executing : Bool
deriving DecidableEq, Repr

/-- A peer's pending intent (R109). -/
structure PIntent where
  num : Byte
  moves : List FMove
  life : Nat
deriving DecidableEq, Repr

/-- A peer's hold (R109). -/
structure PHold where
  left : Nat
  reason : Reason
deriving DecidableEq, Repr

/-- A neighbour table entry (R109). -/
structure Entry where
  addr : Nat
  fresh : Bool
  age : Nat
  vec : Option Vec
  info : Option LoadInfo
  last : Option Byte
  concluded : Nat
  intent : Option PIntent
  hold : Option PHold
deriving DecidableEq, Repr

/-! ### Planner (chapter 8) -/

/-- The planner state (R125). -/
inductive PlState where
  | idle | announcing | awaiting | held | executing
deriving DecidableEq, Repr

/-- A move of a plan (R49). -/
structure Move where
  conn : Nat
  src : Phase
  dst : Phase
  cur : Int
deriving DecidableEq, Repr

/-- The own plan: its moves, the kept count, one result for each position, and how many results have come from the engine
(R125, R143). -/
structure Plan where
  moves : List Move
  kept : Nat
  results : List (Option MoveResult)
  concluded : Nat
deriving DecidableEq, Repr

/-- An event noted in ANNOUNCING after a removal answered as too late (R132). -/
inductive Noted where
  | peerIntent | becameHeld | phaseLoss
deriving DecidableEq, Repr

/-- A pair of the precedence list: a peer's address and an intent number (R134). -/
structure PrecPair where
  addr : Nat
  num : Byte
deriving DecidableEq, Repr

/-- The planner (R125). A stopped timer is absent; a running one carries its remaining seconds, and 0 is an expiry not yet
taken. -/
structure Planner where
  st : PlState
  intentNo : Byte
  plan : Option Plan
  noted : List Noted
  prec : List PrecPair
  last : Option Byte
  ownHold : Nat
  evalT : Option Nat
  reportT : Option Nat
  announceT : Option Nat
  listenT : Option Nat
  lifetimeT : Option Nat
deriving DecidableEq, Repr

/-! ### Event flags (chapter 9) and service link (chapter 11) -/

/-- The 19 event flags, in the order of their codes (R155, section 12.4). -/
inductive Flag where
  | connectionDark | transferFailed | moduleSilent | addressClash | measurementLost
  | phaseLost | phaseReturned | throttled | tableFull | announceExpired | holdHeard | configClamped | rescueIncomplete
  | comparator0 | comparator1 | comparator2 | comparator3
  | planConcluded | rescueConcluded
deriving DecidableEq, Repr

/-- The receive state of the service link (R177). -/
inductive Rx where
  | idle | receiving | discarding | responding
deriving DecidableEq, Repr

/-- The service link: the receive state, the overrun indicator, whether a dropped frame is still arriving (R178), and
whether a RESTART waits for its response to leave (R185). -/
structure Svc where
  rx : Rx
  overrun : Bool
  dropping : Bool
  restartPending : Bool
deriving DecidableEq, Repr

/-! ### What the part sends -/

/-- One thing the part sends at a port: an acknowledge pulse on MACK, a command on the module link, a frame's bytes on LTX,
a response's bytes on STX, or the start of a read attempt at the configuration memory. -/
inductive Output where
  | ack
  | command (c : ModCmd)
  | frame (bytes : List Byte)
  | response (bytes : List Byte)
  | imageRead
deriving DecidableEq, Repr

/-! ### The state -/

/-- The station. `cfg` is absent before the end of LOADING. `draws` numbers the random draws taken, `out` lists what the
part has sent, latest first, and `pending` is the queue of commands waiting, first in front: these three are the model's
own fields. (DESIGN CHOICE, log entry 6, safe) -/
structure State where
  pins : Pins
  station : Station
  cfg : Option Cfg
  time : Time
  phases : Ph3 PhaseSup
  meas : Meas
  conns : List Conn
  engine : Engine
  budget : Budget
  line : Line
  nbrs : List (Option Entry)
  planner : Planner
  comps : List Bool
  flags : BitVec 19
  svc : Svc
  draws : Nat
  out : List Output
  pending : List Instr
deriving DecidableEq, Repr

/-- The machine stops with a fault. No rule of the spec stops the part, so no meaning raises one and the type has no
constructor (safe: nothing is lost). -/
inductive Fault
deriving DecidableEq, Repr

/-- A command without a meaning. -/
inductive Refusal where
  /-- Raised by `exec` alone, for a row of the table that has no meaning yet; no row is left so (safe: the machine stops). -/
  | notModelled (mnemonic : String)
deriving DecidableEq, Repr

/-! ### Power-on values, block by block -/

/-- A held reading after any reset (R12). -/
def Held.initial : Held := ⟨0, false, true, 3, none⟩

/-- The measurement block after any reset (R11 to R15). -/
def Meas.initial : Meas where
  held := List.replicate 32 Held.initial
  lastWindow := none
  reading := none
  vec := ⟨0, 0, 0⟩
  ways := List.replicate 4 ⟨0, 0, 0⟩
  fresh := false
  age := 0

/-- A record that is not configured (R17). -/
def Conn.unconfigured : Conn := ⟨.unconfigured, none, 0, 0, false, none, none, false⟩

/-- A phase at power-on: LOST, watch not timed, mark clear, return count 0 (R8). -/
def PhaseSup.initial : PhaseSup := ⟨false, false, false, 0⟩

/-- The engine after any reset: FREE, nothing listed (R59, R77, R78). -/
def Engine.initial : Engine := ⟨none, [], false, 0⟩

/-- The switching budget after any reset (R82). -/
def Budget.initial : Budget := ⟨false, false, 0, 0, 0, 0, 0⟩

/-- The record snapshot after any reset (R94). -/
def Snapshot.initial : Snapshot := ⟨⟨0, 0, 0⟩, ⟨0, 0, 0⟩, false, 0, none⟩

/-- The line block after any reset (R107). -/
def Line.initial : Line := ⟨none, none, none, none, .idle, none, .none, Snapshot.initial⟩

/-- The planner after any reset, under the given own intent number: 0 at power-on, kept at a restart (R125). -/
def Planner.initial (intentNo : Byte) : Planner :=
  ⟨.idle, intentNo, none, [], [], none, 0, none, none, none, none, none⟩

/-- The timebase at power-on (R2 to R5). -/
def Time.initial : Time := ⟨0, false, none, false, Ph3.same false, .holdover, 0, 0⟩

/-- The service link after any reset (R177, R178). -/
def Svc.initial : Svc := ⟨.idle, false, false, false⟩

/-- The mode, the overrides and the loader at power-on (R164, R174). The mode is LOADING from the reset on, also while PORN stays low.
(DESIGN CHOICE, log entry 36, unsafe) -/
def Station.initial : Station := ⟨.loading, none, true, List.replicate 32 none, .idle, 0⟩

/-- Right after a power-on reset, PORN still low: every block at its power-on values, no image taken (R164).
(DESIGN CHOICE, log entries 4, 5, 29 and 36, unsafe) -/
def State.reset : State where
  pins := ⟨true, false, false, Ph3.same false⟩
  station := Station.initial
  cfg := none
  time := Time.initial
  phases := Ph3.same PhaseSup.initial
  meas := Meas.initial
  conns := List.replicate 32 Conn.unconfigured
  engine := Engine.initial
  budget := Budget.initial
  line := Line.initial
  nbrs := List.replicate 16 none
  planner := Planner.initial 0
  comps := List.replicate 4 false
  flags := 0
  svc := Svc.initial
  draws := 0
  out := []
  pending := []

end Sys2Proof.Machine
end

