-- ==== Sys2Proof/Machine/Flags.lean ====
section
/-! DEFINITION. The 19 event flags, their codes and classes, setting and clearing, and the ALERT level they drive
(chapter 9). -/

namespace Sys2Proof.Machine

/-- The code of a flag (section 12.4). -/
def Flag.code : Flag → Nat
  | .connectionDark => 0
  | .transferFailed => 1
  | .moduleSilent => 2
  | .addressClash => 3
  | .measurementLost => 4
  | .phaseLost => 5
  | .phaseReturned => 6
  | .throttled => 7
  | .tableFull => 8
  | .announceExpired => 9
  | .holdHeard => 10
  | .configClamped => 11
  | .rescueIncomplete => 12
  | .comparator0 => 13
  | .comparator1 => 14
  | .comparator2 => 15
  | .comparator3 => 16
  | .planConcluded => 17
  | .rescueConcluded => 18

/-- COMPARATOR_k (R152). -/
def Flag.comparator (k : Nat) : Flag :=
  match k with
  | 0 => .comparator0
  | 1 => .comparator1
  | 2 => .comparator2
  | _ => .comparator3

/-- Whether a flag is set. -/
def State.flagSet (s : State) (f : Flag) : Bool := s.flags.getLsbD f.code

/-- Set one flag; a flag already set stays set (R155). -/
def State.setFlag (f : Flag) (s : State) : State :=
  { s with flags := s.flags ||| BitVec.twoPow 19 f.code }

/-- Set one flag when a condition holds. -/
def State.setFlagIf (b : Bool) (f : Flag) (s : State) : State := if b then s.setFlag f else s

/-- Clear the flags whose bits are set in `m`; no other flag is touched (R156, R157). -/
def State.clearFlags (m : BitVec 19) (s : State) : State := { s with flags := s.flags &&& ~~~m }

/-- The bits of a list of flag codes (R182: naming a flag twice is as naming it once). -/
def flagMask (codes : List Nat) : BitVec 19 :=
  codes.foldl (fun m k => m ||| BitVec.twoPow 19 k) 0

/-- Any FAULT flag set: codes 0 to 4. -/
def State.anyFault (s : State) : Bool := decide (s.flags &&& 0x1F#19 ≠ 0#19)

/-- Any NOTICE flag set: codes 5 to 16. -/
def State.anyNotice (s : State) : Bool := decide (s.flags &&& 0x1FFE0#19 ≠ 0#19)

/-- Any COMPLETION flag set: codes 17 and 18. -/
def State.anyCompletion (s : State) : Bool := decide (s.flags &&& 0x60000#19 ≠ 0#19)

/-- The flags the ALERT mask enables: bit n of the mask enables the flag with code n + 5 (section 12.3, R159). -/
def maskBits (mask : BitVec 14) : BitVec 19 := mask.setWidth 19 <<< 5

/-- The ALERT level, true when active (R159, R160): inactive until the end of LOADING, active throughout CONFIG_FAULT, and
otherwise driven by any FAULT flag and by the enabled NOTICE and COMPLETION flags. -/
def State.alert (s : State) : Bool :=
  match s.station.mode with
  | .loading => false
  | .configFault => true
  | .inventory | .listenOnly | .active | .blackout =>
    s.anyFault || decide (s.flags &&& maskBits (s.cfg.getD Cfg.blank).mask ≠ 0#19)

end Sys2Proof.Machine
end

