-- ==== Sys2Proof/Machine/Operands.lean ====
section
/-! DEFINITION. The byte formats of chapter 12: byte order and signed fields, the CRC-16, the line frames with their
validation, the configuration image with its clamps, and the service frame. -/

namespace Sys2Proof.Machine

/-! ### Common encoding (R187) -/

/-- One step of the CRC-16 register: shift left and subtract the generator when a one leaves. -/
def crcBit (r : Word16) : Word16 := if r.msb then (r <<< 1) ^^^ 0x1021 else r <<< 1

/-- The CRC-16 register after one byte, most significant bit first. -/
def crcByte (r : Word16) (b : Byte) : Word16 :=
  crcBit (crcBit (crcBit (crcBit (crcBit (crcBit (crcBit (crcBit (r ^^^ (b.setWidth 16 <<< 8)))))))))

/-- The CRC-16 of a byte sequence: register preset to all ones, no final inversion. -/
def crc16 (l : List Byte) : Word16 := l.foldl crcByte 0xFFFF

/-- A sixteen-bit word as two bytes, most significant first. -/
def wordBytes (w : Word16) : List Byte := [w.extractLsb' 8 8, w.extractLsb' 0 8]

/-- Two bytes as a sixteen-bit word, most significant first. -/
def bytesWord (hi lo : Byte) : Word16 := hi ++ lo

/-- A signed sixteen-bit field. -/
def bytesInt (hi lo : Byte) : Int := (bytesWord hi lo).toInt

/-- The two bytes of a signed sixteen-bit field. -/
def intBytes (x : Int) : List Byte := wordBytes (BitVec.ofInt 16 x)

/-- The two bytes of an unsigned sixteen-bit field. -/
def natBytes (n : Nat) : List Byte := wordBytes (BitVec.ofNat 16 n)

/-- One byte holding a number. -/
def natByte (n : Nat) : Byte := BitVec.ofNat 8 n

/-- One bit of a byte. -/
def bitAt (b : Bool) (k : Nat) : Byte := if b then BitVec.twoPow 8 k else 0

/-- The three signed fields of a vector. -/
def vecBytes (v : Vec) : List Byte := intBytes v.a ++ intBytes v.b ++ intBytes v.c

/-- A phase code: 1, 2 and 3 for A, B and C. -/
def phaseCode : Phase → Byte
  | .A => 1
  | .B => 2
  | .C => 3

/-- A phase code, or 0 for none. -/
def phaseCode? : Option Phase → Byte
  | none => 0
  | some p => phaseCode p

/-- The phase a code names. -/
def codePhase (b : Byte) : Option Phase :=
  if b = 1 then some .A else if b = 2 then some .B else if b = 3 then some .C else none

/-- A phase set as a bit field: bit 0 for A, bit 1 for B, bit 2 for C. -/
def phaseSetByte (s : PhaseSet) : Byte := bitAt s.a 0 ||| bitAt s.b 1 ||| bitAt s.c 2

/-! ### Line frames (section 12.2) -/

/-- The code of a hold reason. -/
def reasonCode : Reason → Byte
  | .darkConnection => 1
  | .comparator => 2
  | .service => 3

/-- The reason a code names. -/
def codeReason (b : Byte) : Option Reason :=
  if b = 1 then some .darkConnection else if b = 2 then some .comparator else if b = 3 then some .service else none

/-- The code of a per-move result. -/
def resultCode : MoveResult → Byte
  | .done => 1
  | .skipped => 2
  | .failed => 3

/-- The per-move result a code names. -/
def codeResult (b : Byte) : Option MoveResult :=
  if b = 1 then some .done else if b = 2 then some .skipped else if b = 3 then some .failed else none

/-- The phases byte of a move: from-phase in bits 7 to 4, to-phase in bits 3 to 0. -/
def movePhases (src dst : Phase) : Byte := (phaseCode src <<< 4) ||| phaseCode dst

/-- The three bytes of an announced move. -/
def moveBytes (m : FMove) : List Byte := movePhases m.src m.dst :: intBytes m.cur

/-- The flags byte of a LOAD. -/
def loadFlags (b : LoadBody) : Byte :=
  bitAt b.stale 0 ||| bitAt b.throttled 1 ||| bitAt b.executing 2 ||| bitAt b.last.isSome 3

/-- The kind byte of a frame. -/
def Frame.kindByte : Frame → Byte
  | .load _ => 1
  | .intent _ => 2
  | .outcome _ => 3
  | .hold _ => 4

/-- The body bytes of a frame. -/
def Frame.body : Frame → List Byte
  | .load b =>
    vecBytes b.vec ++ [natByte b.counts.a, natByte b.counts.b, natByte b.counts.c, loadFlags b, b.last.getD 0,
      natByte b.concluded]
  | .intent b => b.num :: natByte b.life :: natByte b.moves.length :: b.moves.flatMap moveBytes
  | .outcome b =>
    b.num :: (if b.completed then 1 else 2) :: natByte b.results.length :: (b.results.map resultCode ++ vecBytes b.vec)
  | .hold b => natBytes b.dur ++ [reasonCode b.reason]

/-- A whole frame: header, body and check value (R92). -/
def frameBytes (feeder : Word16) (address : Nat) (f : Frame) : List Byte :=
  let l := f.kindByte :: (wordBytes feeder ++ natByte address :: f.body)
  l ++ wordBytes (crc16 l)

/-- A signed current lies within ± a limit. -/
def within (lim : Int) (x : Int) : Bool := decide (-lim ≤ x) && decide (x ≤ lim)

/-- The components of a received vector lie within −32000 to +32000 (R99). -/
def vecOk (v : Vec) : Bool := within 32000 v.a && within 32000 v.b && within 32000 v.c

/-- The body of a LOAD, range-checked (R99, R188). -/
def readLoad : List Byte → Option LoadBody
  | [a1, a0, b1, b0, c1, c0, n1, n2, n3, fl, last, k] =>
    let b : LoadBody :=
      { vec := ⟨bytesInt a1 a0, bytesInt b1 b0, bytesInt c1 c0⟩
        counts := ⟨n1.toNat, n2.toNat, n3.toNat⟩
        executing := fl.getLsbD 2
        concluded := k.toNat
        last := if fl.getLsbD 3 then some last else none
        stale := fl.getLsbD 0
        throttled := fl.getLsbD 1 }
    if vecOk b.vec && decide (b.counts.a ≤ 32) && decide (b.counts.b ≤ 32) && decide (b.counts.c ≤ 32)
        && decide (b.concluded ≤ 3) then some b else none
  | _ => none

/-- `n` announced moves, each phase nibble and each current range-checked; nothing may follow them (R99, R188). -/
def readMoves : Nat → List Byte → Option (List FMove)
  | 0, [] => some []
  | n + 1, ph :: hi :: lo :: rest =>
    match codePhase (ph >>> 4), codePhase (ph &&& 0x0F), readMoves n rest with
    | some p, some q, some ms =>
      if within 1000 (bytesInt hi lo) then some (⟨p, q, bytesInt hi lo⟩ :: ms) else none
    | _, _, _ => none
  | _, _ => none

/-- The body of an INTENT, range-checked; the move count lies within 1 to 3 and gives the length (R99, R188). -/
def readIntent : List Byte → Option IntentBody
  | num :: life :: n :: rest =>
    match readMoves n.toNat rest with
    | some ms =>
      if decide (1 ≤ n.toNat) && decide (n.toNat ≤ 3) && decide (5 ≤ life.toNat) && decide (life.toNat ≤ 60) then
        some ⟨num, life.toNat, ms⟩ else none
    | none => none
  | _ => none

/-- `n` per-move results and then a vector, nothing after it (R188). -/
def readResults : Nat → List Byte → Option (List MoveResult × Vec)
  | 0, [a1, a0, b1, b0, c1, c0] => some ([], ⟨bytesInt a1 a0, bytesInt b1 b0, bytesInt c1 c0⟩)
  | n + 1, r :: rest =>
    match codeResult r, readResults n rest with
    | some x, some (xs, v) => some (x :: xs, v)
    | _, _ => none
  | _, _ => none

/-- The body of an OUTCOME, range-checked; every result is SKIPPED when the outcome is WITHDRAWN (R99, R188). -/
def readOutcome : List Byte → Option OutcomeBody
  | num :: res :: n :: rest =>
    match readResults n.toNat rest with
    | some (rs, v) =>
      if decide (1 ≤ n.toNat) && decide (n.toNat ≤ 3) && (res == 1 || (res == 2 && rs.all (· == .skipped))) && vecOk v then
        some ⟨num, res == 1, rs, v⟩ else none
    | none => none
  | _ => none

/-- The body of a HOLD, range-checked (R99, R188). -/
def readHold : List Byte → Option HoldBody
  | [hi, lo, r] =>
    match codeReason r with
    | some reason =>
      if decide (1 ≤ (bytesWord hi lo).toNat) && decide ((bytesWord hi lo).toNat ≤ 600) then
        some ⟨(bytesWord hi lo).toNat, reason⟩ else none
    | none => none
  | _ => none

/-- The body of a frame of the given kind byte (R99 steps 2 and 5). -/
def readBody (kind : Byte) (body : List Byte) : Option Frame :=
  if kind = 1 then (readLoad body).map .load
  else if kind = 2 then (readIntent body).map .intent
  else if kind = 3 then (readOutcome body).map .outcome
  else if kind = 4 then (readHold body).map .hold
  else none

/-- The bytes before the two check bytes, when the check value over them is right. -/
def checkedPart (l : List Byte) : Option (List Byte) :=
  let k := l.length - 2
  if 2 ≤ l.length ∧ l.drop k = wordBytes (crc16 (l.take k)) then some (l.take k) else none

/-- Validation of an assembled frame against the own feeder code: the source address and the contents of a frame that passes
all five steps, and nothing for one that fails any (R99). -/
def validateFrame (feeder : Word16) (l : List Byte) : Option (Nat × Frame) :=
  match checkedPart l with
  | some (kind :: f1 :: f0 :: src :: body) =>
    match readBody kind body with
    | some f =>
      if bytesWord f1 f0 = feeder ∧ 1 ≤ src.toNat ∧ src.toNat ≤ 250 then some (src.toNat, f) else none
    | none => none
  | _ => none

/-! ### The configuration image (section 12.3, R166, R167) -/

/-- A one-byte field of the image. -/
def imgByte (im : List Byte) (k : Nat) : Byte := im.getD k 0

/-- A one-byte field as a number. -/
def img8 (im : List Byte) (k : Nat) : Nat := (imgByte im k).toNat

/-- A two-byte unsigned field as a number. -/
def img16 (im : List Byte) (k : Nat) : Nat := (bytesWord (imgByte im k) (imgByte im (k + 1))).toNat

/-- A four-byte signed field. -/
def img32 (im : List Byte) (k : Nat) : Int :=
  (bytesWord (imgByte im k) (imgByte im (k + 1)) ++ bytesWord (imgByte im (k + 2)) (imgByte im (k + 3))).toInt

/-- A value put right, and whether it had to be. -/
structure Clamped (α : Type) where
  val : α
  changed : Bool

/-- A number outside its range is replaced by the nearer end (R167). -/
def clampNat (lo hi x : Nat) : Clamped Nat := ⟨max lo (min hi x), decide (x < lo) || decide (hi < x)⟩

/-- The same for a signed value (R150). -/
def clampInt (lo hi x : Int) : Clamped Int := ⟨max lo (min hi x), decide (x < lo) || decide (hi < x)⟩

/-- Mains frequency: a value other than 50 or 60 is taken as 50 (R167). -/
def clampMains (x : Nat) : Clamped Nat := if x = 50 ∨ x = 60 then ⟨x, false⟩ else ⟨50, true⟩

/-- An attribute code that names no attribute. The correction to FIXED is made in every connection byte of the image,
configured or not (R167); the clamps of R19 concern configured records alone. (DEDUCED, log entry 13, unsafe) -/
def attrUnnamed (b : Byte) : Bool := (b >>> 5) &&& 3 == 3

/-- One connection's byte: bits 2–0 allowed set, bits 4–3 home phase, bits 6–5 attribute. A code that names no attribute is
taken as FIXED (R167), a code that names no home phase as A, and an allowed set that is empty or lacks the home phase becomes
the home phase alone, FIXED (R19). -/
def clampConn (b : Byte) : Clamped ConnCfg :=
  let home? := codePhase ((b >>> 3) &&& 3)
  let home := home?.getD .A
  let code := (b >>> 5) &&& 3
  let attr : Attr := if code = 0 then .movable else if code = 2 then .excluded else .fixed
  let allowed : PhaseSet := ⟨b.getLsbD 0, b.getLsbD 1, b.getLsbD 2⟩
  let bad := home?.isNone || attrUnnamed b
  if allowed.get home then ⟨⟨attr, allowed, home⟩, bad⟩
  else ⟨⟨.fixed, (Ph3.same false).set home true, home⟩, true⟩

/-- Way boundaries in index order: lowered to the count, raised to the one before, and the last set to the count (R21). -/
def clampBounds (count b0 b1 b2 b3 : Nat) : Clamped (List Nat) :=
  let c0 := min b0 count
  let c1 := max (min b1 count) c0
  let c2 := max (min b2 count) c1
  ⟨[c0, c1, c2, count], !(decide (c0 = b0) && decide (c1 = b1) && decide (c2 = b2) && decide (count = b3))⟩

/-- The source a code names (section 12.3). -/
def codeSource (b : Byte) : Option Source :=
  let n := b.toNat
  if n = 0 then some .feederNeutral
  else if n = 1 then some .localNeutral
  else if n ≤ 4 then (codePhase (b - 1)).map .feederPhase
  else if n ≤ 7 then (codePhase (b - 4)).map .localPhase
  else if 16 ≤ n ∧ n ≤ 27 then (codePhase (BitVec.ofNat 8 ((n - 16) % 3 + 1))).map (.way ((n - 16) / 3))
  else none

/-- The range of a source (R150). -/
def Source.range : Source → Int × Int
  | .feederNeutral | .localNeutral => (0, 131070)
  | .feederPhase _ => (-65535, 65535)
  | .localPhase _ | .way _ _ => (-32000, 32000)

/-- The condition a code names. -/
def codeCond (b : Byte) : Option Cond :=
  if b = 0 then some .above else if b = 1 then some .below else if b = 2 then some .atOrAbove
  else if b = 3 then some .atOrBelow else none

/-- The action a code names. -/
def codeAction (b : Byte) : Option Action :=
  if b = 0 then some .flag else if b = 1 then some .evaluate else if b = 2 then some .hold else none

/-- A comparator definition at an offset of the image: a value beyond its source's range is replaced by the nearer end, and a
code that names no value turns the enable off (R150). (DEDUCED, log entry 14, unsafe) -/
def clampComp (im : List Byte) (k : Nat) : Clamped CompDef :=
  let head := imgByte im k
  match codeSource (imgByte im (k + 1)), codeCond (imgByte im (k + 2)), codeAction (head &&& 3) with
  | some src, some cond, some act =>
    let v := clampInt src.range.1 src.range.2 (img32 im (k + 3))
    ⟨⟨head.getLsbD 7, src, cond, v.val, act⟩, v.changed⟩
  | _, _, _ => ⟨⟨false, .feederNeutral, .above, 0, .flag⟩, true⟩

/-- The intent lifetime, after the listen window: to its range, then up to the listen window plus 3 s (R167). -/
def clampLifetime (listen x : Nat) : Clamped Nat :=
  let r := clampNat 5 60 x
  ⟨max r.val (listen + 3), r.changed || decide (r.val < listen + 3)⟩

/-- The clear mode: a code above 1 is taken as AUTO (R167). -/
def clampManual (x : Nat) : Clamped Bool := ⟨decide (x = 1), decide (1 < x)⟩

/-- The whole image clamped field by field, and whether any field had to be replaced (R167). -/
def clampImage (im : List Byte) : Clamped Cfg :=
  let mains := clampMains (img8 im 4)
  let count := clampNat 1 32 (img8 im 5)
  let bounds := clampBounds count.val (img8 im 6) (img8 im 7) (img8 im 8) (img8 im 9)
  let ratings := (List.range 4).map fun k => clampNat 100 6000 (img16 im (10 + 2 * k))
  let conns := (List.range count.val).map fun i => clampConn (imgByte im (18 + i))
  let pMax := clampNat 1 3 (img8 im 50)
  let gainFloor := clampNat 10 1000 (img16 im 51)
  let minMove := clampNat 0 200 (img8 im 53)
  let evalInt := clampNat 30 900 (img16 im 54)
  let dwell := clampNat 60 7200 (img16 im 56)
  let announce := clampNat 2 30 (img8 im 58)
  let listen := clampNat 2 10 (img8 im 59)
  let lifetime := clampLifetime listen.val (img8 im 60)
  let report := clampNat 10 120 (img8 im 61)
  let sampling := clampNat 60 3600 (img16 im 62)
  let threshold := clampNat 1 255 (img8 im 64)
  let throttle := clampNat 0 63 (img8 im 65)
  let monitoring := clampNat 10 600 (img16 im 66)
  let monMax := clampNat 0 15 (img8 im 68)
  let lossThr := clampNat 1800 2100 (img16 im 69)
  let holdTime := clampNat 10 600 (img16 im 71)
  let manual := clampManual (img8 im 75)
  let comps := (List.range 4).map fun k => clampComp im (76 + 8 * k)
  { val :=
      { version := img8 im 0
        address := img8 im 1
        feeder := bytesWord (imgByte im 2) (imgByte im 3)
        mains := mains.val
        count := count.val
        bounds := bounds.val
        ratings := ratings.map (·.val)
        conns := conns.map (·.val)
        pMax := pMax.val
        gainFloor := gainFloor.val
        minMove := minMove.val
        evalInt := evalInt.val
        dwell := dwell.val
        announce := announce.val
        listen := listen.val
        lifetime := lifetime.val
        report := report.val
        sampling := sampling.val
        threshold := threshold.val
        throttle := throttle.val
        monitoring := monitoring.val
        monMax := monMax.val
        lossThr := lossThr.val
        holdTime := holdTime.val
        mask := (bytesWord (imgByte im 73) (imgByte im 74)).setWidth 14
        manual := manual.val
        comps := comps.map (·.val) }
    changed :=
      mains.changed || count.changed || bounds.changed || ratings.any (·.changed) || conns.any (·.changed)
        || (List.range 32).any (fun i => attrUnnamed (imgByte im (18 + i))) || pMax.changed || gainFloor.changed
        || minMove.changed || evalInt.changed || dwell.changed || announce.changed || listen.changed || lifetime.changed
        || report.changed || sampling.changed || threshold.changed
        || throttle.changed || monitoring.changed || monMax.changed || lossThr.changed || holdTime.changed
        || manual.changed || comps.any (·.changed) }

/-- The checks of an image before any field is taken: its check value, format version 1, and an address within 1 to 250
(R166). -/
def imageOk (im : List Byte) : Bool :=
  decide (im.length = 256) && decide (im.drop 254 = wordBytes (crc16 (im.take 254))) && decide (img8 im 0 = 1)
    && decide (1 ≤ img8 im 1) && decide (img8 im 1 ≤ 250)

/-! ### Service frames (section 12.4) -/

/-- The bytes after the start byte of a complete frame: the kind and payload of a request, or nothing for a frame that is
malformed by its check value, by its length, or by not being complete (R177). -/
def serviceFrame? : List Byte → Option (Byte × List Byte)
  | len :: kind :: rest =>
    if len.toNat ≤ 19 ∧ rest.length = len.toNat + 2
        ∧ rest.drop len.toNat = wordBytes (crc16 (len :: kind :: rest.take len.toNat)) then
      some (kind, rest.take len.toNat)
    else none
  | _ => none

/-- A response frame: start byte, length, the request's kind, answer code and data, check value (section 12.4). -/
def responseBytes (kind : Byte) (code : Byte) (data : List Byte) : List Byte :=
  let l := natByte (data.length + 1) :: kind :: code :: data
  0x7E :: (l ++ wordBytes (crc16 l))

/-- The attribute codes of the image and of OVERRIDE. -/
def attrCode : Attr → Byte
  | .movable => 0
  | .fixed => 1
  | .excluded => 2

/-- The attribute a code names. -/
def codeAttr (b : Byte) : Option Attr :=
  if b = 0 then some .movable else if b = 1 then some .fixed else if b = 2 then some .excluded else none

end Sys2Proof.Machine
end

