-- ==== Sys2Proof/Machine/Ops.lean ====
section
/-! DEFINITION. The named operations over the state that every block shares: settings in force, modes and phases, the
connection records and their held readings, random draws, what the part sends, and the recovery set. -/

namespace Sys2Proof.Machine

/-! ### Settings and modes -/

/-- The settings in force (R163). -/
def State.conf (s : State) : Cfg := s.cfg.getD Cfg.blank

/-- The station mode. -/
def State.mode (s : State) : Mode := s.station.mode

/-- The modes in which the station works: every one but LOADING and CONFIG_FAULT (R164, R169). -/
def Mode.working : Mode → Bool
  | .loading | .configFault => false
  | .inventory | .listenOnly | .active | .blackout => true

/-- The station is ACTIVE. -/
def State.isActive (s : State) : Bool := s.mode == .active

/-- While PORN stays low the part does nothing (R164); otherwise the event has its effect. -/
def powered (f : State → State) (s : State) : State := if s.pins.pornLow then s else f s

/-! ### What the part sends, and random draws -/

/-- The part sends something at a port. -/
def State.send (o : Output) (s : State) : State := { s with out := o :: s.out }

/-- The value the next random draw gives, from 0 to `k`, ends included (scope, "Random draws"). -/
def State.drawValue (s : State) (k : Nat) : Nat := Config.draw s.draws % (k + 1)

/-- One random draw has been taken. -/
def State.drawn (s : State) : State := { s with draws := s.draws + 1 }

/-! ### Phases -/

/-- A phase is PRESENT. -/
def State.present (s : State) (p : Phase) : Bool := (s.phases.get p).present

/-- Some phase is PRESENT. -/
def State.anyPresent (s : State) : Bool := s.present .A || s.present .B || s.present .C

/-- The set of PRESENT phases. -/
def State.presentSet (s : State) : PhaseSet := s.phases.map (·.present)

/-- No cycle events come: the counter is unaligned or there is no reference phase (R58). -/
def State.noCycles (s : State) : Bool := !s.time.aligned || s.time.ref.isNone

/-! ### Connections -/

/-- The index is below the configured count (R17). -/
def State.configured (s : State) (i : Nat) : Bool := decide (i < s.conf.count)

/-- A connection record. -/
def State.conn (s : State) (i : Nat) : Conn := s.conns.getD i Conn.unconfigured

/-- Change one connection record; an index without a record changes nothing. -/
def State.modConn (i : Nat) (f : Conn → Conn) (s : State) : State := { s with conns := s.conns.modify i f }

/-- The held state of a connection's reading. -/
def State.held (s : State) (i : Nat) : Held := s.meas.held.getD i Held.initial

/-- Change the held state of one connection's reading. -/
def State.modHeld (i : Nat) (f : Held → Held) (s : State) : State :=
  { s with meas := { s.meas with held := s.meas.held.modify i f } }

/-- What the image gives a connection; the default is that of no image. -/
def State.connCfg (s : State) (i : Nat) : ConnCfg := s.conf.conns.getD i ⟨.fixed, Ph3.same false, .A⟩

/-- The override table's entry for an index (R20). -/
def State.overrideOf (s : State) (i : Nat) : Option Attr := s.station.overrides.getD i none

/-- The effective attribute (R18): the override entry if present, else the loaded attribute. -/
def State.attrOf (s : State) (i : Nat) : Attr := (s.overrideOf i).getD (s.connCfg i).attr

/-- A phase is in the connection's allowed set. -/
def State.allows (s : State) (i : Nat) (p : Phase) : Bool := (s.connCfg i).allowed.get p

/-- The connection's home phase. -/
def State.homeOf (s : State) (i : Nat) : Phase := (s.connCfg i).home

/-- The way a connection belongs to: the first whose boundary lies above the index (R21). -/
def wayIn (bounds : List Nat) (i : Nat) : Nat := bounds.findIdx fun b => decide (i < b)

/-- The way of a connection. -/
def State.wayOf (s : State) (i : Nat) : Nat := wayIn s.conf.bounds i

/-- STEADY, or RESTING while dwell remains (R28). -/
def Conn.restOrSteady (c : Conn) : ConnState := if 0 < c.dwell then .resting else .steady

/-- The connection leaves the recovery set. -/
def Conn.leaveSet (c : Conn) : Conn := { c with member := none }

/-- The connection joins the recovery set; a member of the same kind keeps its place and its retry remaining (R29). -/
def Conn.joinSet (kind : RecKind) (retry : Nat) (c : Conn) : Conn :=
  if c.member.map (·.kind) = some kind then c else { c with member := some ⟨kind, retry⟩ }

/-- The connection goes DARK: no current phase, attempts 0, and a RECOVER member (R27, R29, R31). -/
def Conn.goDark (retry : Nat) (c : Conn) : Conn :=
  Conn.joinSet .recover retry { c with st := .dark, cur := none, attempts := 0 }

/-- A module is found closed on `x`: STEADY or RESTING there when `x` is allowed, FAULTED there when it is not (R31, R33,
R34). -/
def Conn.foundOn (x : Phase) (allowed : Bool) (c : Conn) : Conn :=
  { c with cur := some x, st := if allowed then c.restOrSteady else .faulted }

/-- The attempts before recovery gives up (R31). -/
def maxAttempts : Nat := 3

/-- The retry remaining after a failed or an unmade attempt, in seconds (R29, R31, R74). -/
def retryWait : Nat := 10

/-- The engine sends a command to a module. -/
def State.sendCommand (c : ModCmd) (s : State) : State := s.send (.command c)

end Sys2Proof.Machine
end

