-- ==== Sys2Proof/Machine/Budget.lean ====
section
/-! DEFINITION. The switching budget (chapter 5): the count of a balancing transfer start, entry to THROTTLED, the ends of
its windows and of the throttle period, and its seconds, which take those ends. -/

namespace Sys2Proof.Machine

/-- Change the budget. -/
def State.modBudget (f : Budget → Budget) (s : State) : State := { s with budget := f s.budget }

/-- The sampling count rises by 1 and stops at 65535 (R84). -/
def Budget.sampled (b : Budget) : Nat := min 65535 (b.sampCount + 1)

/-- A reported start raises the count above T with D above 0: the budget enters THROTTLED (R84, R85). -/
def State.startThrottles (s : State) : Bool :=
  !s.budget.throttled && decide (s.conf.threshold < s.budget.sampled) && decide (0 < s.conf.throttle)

/-- The engine reports a balancing transfer start (R84, R85). -/
def State.budgetStart (s : State) : State :=
  if s.budget.throttled then
    s.modBudget fun b => { b with sampCount := b.sampled, monCount := b.monCount + 1 }
  else if s.startThrottles then
    (s.modBudget fun b =>
      { b with
        throttled := true
        sampCount := b.sampled
        throttleLeft := s.conf.throttle * s.conf.sampling
        monLeft := s.conf.monitoring
        monCount := 0 }).setFlag .throttled
  else s.modBudget fun b => { b with sampCount := b.sampled }

/-- The timers start at the first entry to ACTIVE after a reset (R82). -/
def State.startBudget (s : State) : State :=
  if s.budget.running then s
  else s.modBudget fun b => { b with running := true, sampLeft := s.conf.sampling }

/-- The end of the sampling window, at a remaining of 0: the count is zeroed and the next window begins (R83). -/
def Budget.samplingEnd (window : Nat) (b : Budget) : Budget :=
  if b.running ∧ b.sampLeft = 0 then { b with sampCount := 0, sampLeft := window } else b

/-- The end of the monitoring window while THROTTLED, at a remaining of 0: its count is zeroed and the next window begins (R86). -/
def Budget.monitoringEnd (window : Nat) (b : Budget) : Budget :=
  if b.throttled ∧ b.monLeft = 0 then { b with monCount := 0, monLeft := window } else b

/-- The throttle expiry, at a remaining of 0: back to OPEN, counts zeroed, the sampling window left running (R87). -/
def Budget.throttleEnd (b : Budget) : Budget :=
  if b.throttled ∧ b.throttleLeft = 0 then
    { b with throttled := false, sampCount := 0, throttleLeft := 0, monLeft := 0, monCount := 0 }
  else b

/-- A second counted in the budget: the sampling window while the timers run, the throttle period and the monitoring window while
THROTTLED (R83, R86, R87). -/
def Budget.counted (b : Budget) : Budget :=
  { b with
    sampLeft := if b.running then b.sampLeft - 1 else b.sampLeft
    throttleLeft := if b.throttled then b.throttleLeft - 1 else b.throttleLeft
    monLeft := if b.throttled then b.monLeft - 1 else b.monLeft }

/-- One second in the budget: the tick that brings a remaining to 0 ends its window, or the throttle period (R83, R86, R87). A throttle
expiry cuts the monitoring window short (R90). -/
def Budget.second (sampling monitoring : Nat) (b : Budget) : Budget :=
  ((b.counted.samplingEnd sampling).throttleEnd).monitoringEnd monitoring

/-- The row of the sampling window's end (R83). The tick ends the window itself, and the row finds no end it has left.
(DEDUCED, log entry 15, safe) -/
def State.samplingEnd (s : State) : State := s.modBudget (Budget.samplingEnd s.conf.sampling)

/-- The row of the monitoring window's end (R86), which the tick takes too. (DEDUCED, log entry 15, safe) -/
def State.monitoringEnd (s : State) : State := s.modBudget (Budget.monitoringEnd s.conf.monitoring)

/-- The row of the throttle expiry (R87), which the tick takes too. (DEDUCED, log entry 15, safe) -/
def State.throttleEnd (s : State) : State := s.modBudget Budget.throttleEnd

end Sys2Proof.Machine
end

