-- ==== Sys2Proof/Machine/Balance.lean ====
section
/-! DEFINITION. The balance computation (chapter 3) and the switching budget's allowance it reads (R88): views, neutral
estimate, candidates, plan building, rechecks, rescue selection and rescue targets. It holds no state of its own. -/

namespace Sys2Proof.Machine

/-! ### Views (section 3.1) -/

/-- A component saturates at ±65535 (R37, R38). -/
def satComp (x : Int) : Int := max (-65535) (min 65535 x)

/-- The component-wise sum of two vectors. -/
def vecAdd (v w : Vec) : Vec := ⟨v.a + w.a, v.b + w.b, v.c + w.c⟩

/-- The measurement-stale flag of an entry, clear when no LOAD has brought flags (R37). -/
def Entry.stale (e : Entry) : Bool := (e.info.map (·.stale)).getD false

/-- What an entry adds to the feeder view: its vector when it is FRESH, holds one, and is not marked measurement-stale, and
otherwise nothing (R37). -/
def Entry.share (e : Entry) : Vec :=
  if e.fresh && !e.stale then e.vec.getD ⟨0, 0, 0⟩ else ⟨0, 0, 0⟩

/-- The exact sum of the local vector and the neighbours' shares. -/
def State.viewSum (s : State) : Vec :=
  s.nbrs.foldl (fun v e => vecAdd v ((e.map Entry.share).getD ⟨0, 0, 0⟩)) s.meas.vec

/-- The feeder view F: the exact sum, saturated once (R37). -/
def State.feederView (s : State) : Vec := s.viewSum.map satComp

/-- One move applied to a vector: the current is taken from one component and added to another, both exactly (R38). -/
def shift (v : Vec) (p q : Phase) (c : Int) : Vec :=
  let w := v.set p (v.get p - c)
  w.set q (w.get q + c)

/-- One move applied to a view, each component then saturated (R38). -/
def applyMove (v : Vec) (p q : Phase) (c : Int) : Vec := (shift v p q c).map satComp

/-- The unconcluded moves of an entry's pending intent that are projected: none unless the entry is FRESH and not marked
measurement-stale (R38, R39). -/
def Entry.projected (e : Entry) : List FMove :=
  if e.fresh && !e.stale then ((e.intent.map (·.moves)).getD []).drop e.concluded else []

/-- The projected view P: the feeder view with the peers' unconcluded moves applied in slot order (R38). -/
def State.projectedView (s : State) : Vec :=
  s.nbrs.foldl
    (fun v e => ((e.map Entry.projected).getD []).foldl (fun w m => applyMove w m.src m.dst m.cur) v) s.feederView

/-! ### The neutral estimate (section 3.2) -/

/-- The quantity U of a vector (R40). -/
def quantityU (v : Vec) : Int := ((v.a - v.b) ^ 2 + (v.b - v.c) ^ 2 + (v.c - v.a) ^ 2) / 2

/-- The square root rounded down, one binary digit at a time from digit `k - 1`, on top of `r`. -/
def rootDigits (u : Nat) : Nat → Nat → Nat
  | 0, r => r
  | k + 1, r => if (r + 2 ^ k) ^ 2 ≤ u then rootDigits u k (r + 2 ^ k) else rootDigits u k r

/-- The square root of a natural number, rounded down (R41). -/
def rootDown (u : Nat) : Nat := rootDigits u (u.log2 / 2 + 1) 0

/-- The neutral estimate N of a vector (R41). -/
def neutral (v : Vec) : Nat := rootDown (quantityU v).toNat

/-! ### Allowance (R88) -/

/-- The number of balancing transfers the budget permits to start: P_max while OPEN, and what is left of the monitoring
maximum while THROTTLED. -/
def State.allowance (s : State) : Nat :=
  if s.budget.throttled then s.conf.monMax - s.budget.monCount else s.conf.pMax

/-! ### Candidates and gain (section 3.4) -/

/-- The working way currents of one way. -/
def wayVec (ways : List Vec) (k : Nat) : Vec := ways.getD k ⟨0, 0, 0⟩

/-- A way's rating (R22). -/
def State.rating (s : State) (k : Nat) : Nat := s.conf.ratings.getD k 0

/-- The way limit for moving current `c` of connection `i` onto phase `q`, against the given way currents (R45). -/
def State.wayLimit (s : State) (ways : List Vec) (i : Nat) (q : Phase) (c : Int) : Bool :=
  decide (((wayVec ways (s.wayOf i)).get q + c).natAbs ≤ s.rating (s.wayOf i))

/-- The way currents adjusted by a move of connection `j` (R45). -/
def State.adjustWays (s : State) (ways : List Vec) (j : Nat) (p q : Phase) (c : Int) : List Vec :=
  ways.modify (s.wayOf j) fun v => shift v p q c

/-- The candidate conditions of R44 for connection `i`, from-phase `p` and target `q`, against the given way currents. -/
def State.candidate (s : State) (ways : List Vec) (i : Nat) (p q : Phase) : Bool :=
  let c := s.held i
  s.configured i && s.attrOf i == .movable && (s.conn i).st == .steady && !c.saturated && !c.unmeasured
    && decide (s.conf.minMove ≤ c.value.natAbs) && (s.conn i).cur == some p && s.present p && p != q && s.allows i q
    && s.present q && s.wayLimit ways i q c.value

/-- The gain of a move against a working view (R46). -/
def gain (w : Vec) (p q : Phase) (c : Int) : Int := (neutral w : Int) - (neutral (applyMove w p q c) : Int)

/-! ### Plan building (section 3.5) -/

/-- A candidate found, with its gain. -/
structure Found where
  move : Move
  gain : Int

/-- `x` is selected over `y` found before it: a higher gain, or the same gain with the smaller current. Candidates are found
in the order of index and then target, so an earlier one wins what is left (R48). -/
def Found.beats (x y : Found) : Bool :=
  decide (y.gain < x.gain) || (x.gain == y.gain && decide (x.move.cur.natAbs < y.move.cur.natAbs))

/-- The better of a selection so far and one more candidate. -/
def better (best : Option Found) (x : Found) : Option Found :=
  match best with
  | none => some x
  | some y => if x.beats y then some x else some y

/-- The candidates of one connection not yet in the plan, in target order, with their gains (R44, R46). -/
def State.candidatesOf (s : State) (w : Vec) (ways : List Vec) (plan : List Move) (i : Nat) : List Found :=
  if plan.any (·.conn == i) then [] else
    match (s.conn i).cur with
    | none => []
    | some p =>
      (Phase.all.filter fun q => s.candidate ways i p q).map fun q =>
        { move := ⟨i, p, q, (s.held i).value⟩, gain := gain w p q (s.held i).value }

/-- The selection of one step of plan building (R47, R48). -/
def State.bestCandidate (s : State) (w : Vec) (ways : List Vec) (plan : List Move) : Option Found :=
  ((List.range 32).flatMap fun i => s.candidatesOf w ways plan i).foldl better none

/-- At most `n` further moves built onto a plan (R47 steps 2 to 6). -/
def State.extendPlan (s : State) : Nat → Vec → List Vec → List Move → List Move
  | 0, _, _, plan => plan
  | n + 1, w, ways, plan =>
    match s.bestCandidate w ways plan with
    | none => plan
    | some x =>
      if (s.conf.gainFloor : Int) ≤ x.gain then
        let m := x.move
        s.extendPlan n (applyMove w m.src m.dst m.cur) (s.adjustWays ways m.conn m.src m.dst m.cur) (plan ++ [m])
      else plan

/-- The plan of an evaluation: empty when none results (R47, R49). -/
def State.buildPlan (s : State) : List Move :=
  s.extendPlan (min s.conf.pMax s.allowance) s.projectedView s.meas.ways []

/-! ### Rechecks (section 3.6) -/

/-- How many leading moves a recheck keeps, against a working view and working way currents (R50). A kept move adjusts the way
currents with the held reading it is tested and applied with, not with the current planned (R45).
(DEDUCED, log entry 32, unsafe) -/
def State.recheckFrom (s : State) : Vec → List Vec → List Move → Nat
  | _, _, [] => 0
  | w, ways, m :: rest =>
    let c := (s.held m.conn).value
    if s.candidate ways m.conn m.src m.dst && decide ((s.conf.gainFloor : Int) ≤ gain w m.src m.dst c) then
      s.recheckFrom (applyMove w m.src m.dst c) (s.adjustWays ways m.conn m.src m.dst c) rest + 1
    else 0

/-- The kept count of a plan recheck (R50). -/
def State.recheckCount (s : State) (moves : List Move) : Nat := s.recheckFrom s.projectedView s.meas.ways moves

/-- The move check before ARM (R52): the candidate conditions, with the unadjusted way currents. -/
def State.moveCheck (s : State) (m : Move) : Bool := s.candidate s.meas.ways m.conn m.src m.dst

/-! ### Rescue (section 3.7) -/

/-- A connection is selected for rescue at the loss of phase `x` (R53). -/
def State.rescueSelected (s : State) (x : Phase) (i : Nat) : Bool :=
  s.configured i && s.attrOf i == .movable && (s.conn i).cur == some x
    && ((s.conn i).st == .steady || (s.conn i).st == .resting || (s.conn i).st == .moving)

/-- The rescue take check (R54): the phase to leave, when the entry still calls for a rescue. -/
def State.rescueFrom (s : State) (i : Nat) : Option Phase :=
  if s.attrOf i == .movable && ((s.conn i).st == .steady || (s.conn i).st == .resting) then
    match (s.conn i).cur with
    | some p => if s.present p then none else some p
    | none => none
  else none

/-- A rescue target candidate with its estimate; the lower estimate wins, and the earlier phase a tie (R55). -/
def lowerEstimate (best : Option (Phase × Nat)) (x : Phase × Nat) : Option (Phase × Nat) :=
  match best with
  | none => some x
  | some y => if x.2 < y.2 then some x else some y

/-- The rescue target of connection `i` on the lost phase `p` with rescue current `r` (R55). -/
def State.rescueTarget (s : State) (i : Nat) (p : Phase) (r : Int) : Option Phase :=
  (((Phase.all.filter fun q => s.allows i q && s.present q && s.wayLimit s.meas.ways i q r).map
    fun q => (q, neutral (applyMove s.feederView p q r))).foldl lowerEstimate none).map (·.1)

/-- The fallback target of a move (R68). -/
def State.fallbackTarget (s : State) (m : MoveReq) : Option Phase :=
  if !m.rescue && s.present m.src then some m.src
  else Phase.all.find? fun t => s.allows m.conn t && s.present t && t != m.dst && s.wayLimit s.meas.ways m.conn t m.cur

/-- The target of a recovery MAKE (R74). -/
def State.recoveryTarget (s : State) (i : Nat) : Option Phase :=
  if s.present (s.homeOf i) then some (s.homeOf i)
  else Phase.all.find? fun t => s.allows i t && s.present t

end Sys2Proof.Machine
end

