-- ==== Sys2Proof/Machine/Line.lean ====
section
/-! DEFINITION. The line block (chapter 6): the transmit queue, the access to the line, transmission and reception. -/

namespace Sys2Proof.Machine

/-! ### The queue and its head (R101, R102) -/

/-- The frame kind at the head of the queue, which gives the deferral range (R104). -/
inductive FrameKind where
  | hold | outcome | intent | load
deriving DecidableEq, Repr

/-- The head of the queue: the first occupied place in the order HOLD, OUTCOME, INTENT, LOAD, an unripe OUTCOME passed over
(R102). -/
def Line.head (l : Line) : Option FrameKind :=
  if l.qHold.isSome then some .hold
  else if l.qOutcome.any fun o => o.vec.isSome then some .outcome
  else if l.qIntent.isSome then some .intent
  else if l.qLoad.isSome then some .load
  else none

/-- A quiet gap begins if carrier-detect is inactive, and otherwise waits for the carrier to end (R104). -/
def gapStart (lcd : Bool) : Option Nat := if lcd then none else some 0

/-- The access after the queue has changed: IDLE goes to GAP when the queue gains a head, and every state but SENDING returns
to IDLE when it loses its last head (R104, R105). -/
def Line.refresh (lcd : Bool) (l : Line) : Line :=
  match l.access with
  | .idle => if l.head.isSome then { l with access := .gap (gapStart lcd) } else l
  | .gap _ | .defer _ | .frozen _ _ => if l.head.isSome then l else { l with access := .idle }
  | .sending => l

/-- Change the queue, and find its head afresh (R102). -/
def State.modQueue (f : Line → Line) (s : State) : State := { s with line := (f s.line).refresh s.pins.lcd }

/-- An offer to the queue: refused, with no effect, while the station is not ACTIVE (R101). -/
def State.offer (f : Line → Line) (s : State) : State := if s.isActive then s.modQueue f else s

/-- Merge an offered HOLD with a queued one (R101). -/
def mergeHold (queued : Option HoldBody) (h : HoldBody) : HoldBody :=
  match queued with
  | none => h
  | some q =>
    if q.dur < h.dur then h else if q.dur = h.dur then ⟨q.dur, h.reason⟩ else q

/-- Offer a HOLD. -/
def State.offerHold (dur : Nat) (reason : Reason) : State → State :=
  State.offer fun l => { l with qHold := some (mergeHold l.qHold ⟨dur, reason⟩) }

/-- Offer an OUTCOME: ripe at once with the local vector when WITHDRAWN or when the measurement is STALE, unripe otherwise
(R96). -/
def State.offerOutcome (num : Byte) (completed : Bool) (results : List MoveResult) (s : State) : State :=
  let vec := if completed && s.meas.fresh then none else some s.meas.vec
  s.offer fun l => { l with qOutcome := some ⟨num, completed, results, vec⟩ }

/-- Offer an INTENT (R95). -/
def State.offerIntent (b : IntentBody) : State → State := State.offer fun l => { l with qIntent := some b }

/-- The number of moves of the own intent that the engine has concluded, 0 unless EXECUTING (R94). -/
def Planner.progress (p : Planner) : Nat :=
  if p.st = .executing then (p.plan.map (·.concluded)).getD 0 else 0

/-- The LOAD the line block forms (R93): vector and counts from the record snapshot; the planner's three fields from the
snapshot while FRESH and from the planner while STALE (R94); the two flags as they stand. (DEDUCED, log entry 21, safe) -/
def State.loadBody (s : State) : LoadBody :=
  let k := s.line.snap
  { vec := k.vec
    counts := k.counts
    executing := if s.meas.fresh then k.executing else s.planner.st == .executing
    concluded := if s.meas.fresh then k.concluded else s.planner.progress
    last := if s.meas.fresh then k.last else s.planner.last
    stale := !s.meas.fresh
    throttled := s.budget.throttled }

/-- Offer a LOAD (R93, R147). -/
def State.offerLoad (s : State) : State := s.offer fun l => { l with qLoad := some s.loadBody }

/-- An unripe OUTCOME takes its vector and can be sent (R96). -/
def State.ripen (v : Vec) : State → State :=
  State.modQueue fun l => { l with qOutcome := l.qOutcome.map fun o => { o with vec := some (o.vec.getD v) } }

/-- Whether the frame in transmission is an INTENT. -/
def Line.sendsIntent (l : Line) : Bool :=
  match l.tx with
  | some (.intent _) => true
  | some (.load _) | some (.outcome _) | some (.hold _) | none => false

/-- The answer to the planner's request to remove its INTENT: too late when it is not in its place and its transmission has
begun (R103). -/
def Line.removalTooLate (l : Line) : Bool := !l.qIntent.isSome && l.sendsIntent

/-- The INTENT is removed from its place (R103). -/
def State.removeIntent : State → State := State.modQueue fun l => { l with qIntent := none }

/-! ### Access and transmission (section 6.4) -/

/-- The frame of a kind that stands in its place, and the queue without it. -/
def Line.takeFrame (l : Line) : FrameKind → Option (Frame × Line)
  | .hold => l.qHold.map fun h => (.hold h, { l with qHold := none })
  | .outcome => l.qOutcome.bind fun o => o.vec.map fun v =>
      (.outcome ⟨o.num, o.completed, o.results, v⟩, { l with qOutcome := none })
  | .intent => l.qIntent.map fun b => (.intent b, { l with qIntent := none })
  | .load => l.qLoad.map fun b => (.load b, { l with qLoad := none })

/-- The transmission of the head frame starts: it leaves its place, its check value is computed over what it then holds, the
access enters SENDING and reception stops, a frame being assembled abandoned (R106, R98). Without a head the access is IDLE. -/
def State.startTransmission (s : State) : State :=
  match s.line.head.bind s.line.takeFrame with
  | some (f, l) =>
    ({ s with line := { l with tx := some f, access := .sending, assembly := .none } }).send
      (.frame (frameBytes s.conf.feeder s.conf.address f))
  | none => { s with line := { s.line with access := .idle } }

/-- The largest deferral count of a kind (R104). -/
def FrameKind.deferral : FrameKind → Nat
  | .hold | .outcome => 3
  | .intent => 7
  | .load => 15

/-- The cycles of a quiet gap (R104). -/
def gapCycles : Nat := 2

/-- The access at another point, the queue and the rest of the line as they are. -/
def State.setAccess (a : Access) (s : State) : State := { s with line := { s.line with access := a } }

/-- A quiet gap is complete: in GAP a deferral is drawn from the range of the head's kind, and a draw of 0 starts the transmission at
once; in FROZEN the kept count is resumed (R104, R105). -/
def State.gapComplete (s : State) : State :=
  match s.line.access with
  | .gap _ =>
    match s.line.head with
    | some h => if s.drawValue h.deferral = 0 then s.drawn.startTransmission else s.drawn.setAccess (.defer (s.drawValue h.deferral))
    | none => s.setAccess .idle
  | .frozen n _ => s.setAccess (.defer n)
  | .idle | .defer _ | .sending => s

/-- One cycle in the access: it counts toward a running quiet gap, and completes it when it is the second; or it lowers the deferral
count, and starts the transmission of the head when it brings the count to 0 (R104, R105, R108). -/
def State.accessCycle (s : State) : State :=
  match s.line.access with
  | .gap (some k) => if gapCycles ≤ k + 1 then s.gapComplete else s.setAccess (.gap (some (k + 1)))
  | .frozen n (some k) => if gapCycles ≤ k + 1 then s.gapComplete else s.setAccess (.frozen n (some (k + 1)))
  | .defer n => if n ≤ 1 then s.startTransmission else s.setAccess (.defer (n - 1))
  | .idle | .gap none | .frozen _ none | .sending => s

/-- `n` cycles in the access, one after the other. -/
def State.accessCycles : Nat → State → State
  | 0, s => s
  | n + 1, s => State.accessCycles n s.accessCycle

/-- One second in the queue: the remaining time of a queued HOLD goes down, and the tick that brings it to 0 removes the HOLD, which
may leave the queue without a head (R97, R103). -/
def Line.second (lcd : Bool) (l : Line) : Line :=
  match l.qHold with
  | some h => if h.dur ≤ 1 then Line.refresh lcd { l with qHold := none } else { l with qHold := some { h with dur := h.dur - 1 } }
  | none => l

/-- The line block at the entry to any mode but ACTIVE: the queue is emptied, a transmission is cut off with no complete event,
and the access is IDLE (R107). -/
def State.clearLine (s : State) : State :=
  { s with line := { s.line with qHold := none, qOutcome := none, qIntent := none, qLoad := none, access := .idle, tx := none } }

/-! ### Carrier-detect and assembly (R98) -/

/-- Reception is taken: in every working mode, and not while the part transmits (R98). -/
def State.receives (s : State) : Bool := s.mode.working && s.line.access != .sending

/-- The access when carrier-detect becomes active: a gap, which is not complete while it stands, is cancelled, and a running deferral
is frozen with its count (R104, R105, R108). -/
def Access.carrier : Access → Access
  | .gap _ => .gap none
  | .defer n => .frozen n none
  | .frozen n _ => .frozen n none
  | a => a

/-- The access when carrier-detect becomes inactive: a quiet gap starts in GAP and FROZEN (R104). -/
def Access.carrierGone : Access → Access
  | .gap none => .gap (some 0)
  | .frozen n none => .frozen n (some 0)
  | a => a

/-- Carrier-detect becomes active. -/
def State.lcdRise (s : State) : State :=
  if s.pins.lcd then s else
    { s with
      pins := { s.pins with lcd := true }
      line := { s.line with
        access := s.line.access.carrier
        assembly := if s.receives then .underWay else .none } }

/-- Carrier-detect becomes inactive; a frame being assembled has ended. -/
def State.lcdFall (s : State) : State :=
  if s.pins.lcd then
    { s with
      pins := { s.pins with lcd := false }
      line := { s.line with
        access := s.line.access.carrierGone
        assembly := if s.line.assembly = .underWay then .ended else s.line.assembly } }
  else s

/-- The frame ended is handed to validation: its carrier is over and no assembly remains. -/
def State.endAssembly (s : State) : State :=
  { s.lcdFall with line := { s.lcdFall.line with assembly := .none } }

/-- The frame whose bytes have been assembled, if one has ended and passes the five steps (R98, R99). -/
def State.heardFrame (bytes : List Byte) (s : State) : Option (Nat × Frame) :=
  if s.lcdFall.line.assembly = .ended ∧ s.receives then validateFrame s.conf.feeder bytes else none

end Sys2Proof.Machine
end

