-- ==== Sys2Proof/Machine/Planner.lean ====
section
/-! DEFINITION. The planner (chapter 8) up to the point where it enters EXECUTING: evaluations, holds, announcing,
rechecks, withdrawal and conclusion. What releases it to the transfer engine stands in Machine/Coordination.lean. -/

namespace Sys2Proof.Machine

/-- Change the planner. -/
def State.modPlanner (f : Planner → Planner) (s : State) : State := { s with planner := f s.planner }

/-! ### Timers and the return to IDLE -/

/-- The evaluation timer is started with a fresh draw: E plus 0 to E/4 seconds (R127). -/
def State.startEval (s : State) : State :=
  s.drawn.modPlanner fun p => { p with evalT := some (s.conf.evalInt + s.drawValue (s.conf.evalInt / 4)) }

/-- The report timer is started with a fresh draw: the report interval plus 0 to 2 seconds (R147). -/
def State.startReport (s : State) : State :=
  s.drawn.modPlanner fun p => { p with reportT := some (s.conf.report + s.drawValue 2) }

/-- What every return to IDLE leaves of the planner: plan, noted events and precedence list dropped, the announce limit,
listen and own lifetime timers stopped (R132, R133, R135, R137). -/
def Planner.cleared (p : Planner) : Planner :=
  { p with st := .idle, plan := none, noted := [], prec := [], announceT := none, listenT := none, lifetimeT := none }

/-- The planner returns to IDLE; in ACTIVE the evaluation timer is started afresh (R127). -/
def State.plannerIdle (s : State) : State :=
  if s.isActive then (s.modPlanner Planner.cleared).startEval else s.modPlanner Planner.cleared

/-- The planner when the station enters a mode other than ACTIVE: back to IDLE, an announced intent taken as concluded, every
timer but the own hold stopped (R146). -/
def Planner.leaveActive (p : Planner) : Planner :=
  let last := match p.st with
    | .awaiting | .held | .executing => some p.intentNo
    | .idle | .announcing => p.last
  { p.cleared with last := last, evalT := none, reportT := none }

/-! ### Held condition (R130) -/

/-- The peer-held condition: some entry holds a hold (R121). -/
def State.peerHeld (s : State) : Bool := s.nbrs.any fun e => e.any fun x => x.hold.isSome

/-- The station is held (R130). -/
def State.isHeld (s : State) : Bool := decide (0 < s.planner.ownHold) || s.peerHeld

/-! ### Evaluation and announcing (R128, R129) -/

/-- The moves of a plan as an INTENT carries them (R95). -/
def announced (moves : List Move) : List FMove := moves.map fun m => ⟨m.src, m.dst, m.cur⟩

/-- A plan just built: kept whole, no results (R129). -/
def Plan.fresh (moves : List Move) : Plan := ⟨moves, moves.length, List.replicate moves.length none, 0⟩

/-- The planner announces a plan: next intent number, INTENT offered, announce limit timer started, ANNOUNCING (R126, R129).
An offer refused outside ACTIVE drops the plan, the number consumed. -/
def State.announce (moves : List Move) (s : State) : State :=
  let n := s.planner.intentNo + 1
  if s.isActive then
    (s.modPlanner fun p =>
      { p with st := .announcing, intentNo := n, plan := some (Plan.fresh moves), announceT := some s.conf.announce
               }).offerIntent ⟨n, s.conf.lifetime, announced moves⟩
  else (s.modPlanner fun p => { p with intentNo := n }).plannerIdle

/-- An evaluation: a plan is announced, or none results and the planner stays IDLE (R129). -/
def State.evaluate (s : State) : State :=
  match s.buildPlan with
  | [] => s
  | m :: rest => s.announce (m :: rest)

/-- An evaluation is taken: ACTIVE, planner IDLE, not held, measurement FRESH (R128). -/
def State.canEvaluate (s : State) : Bool :=
  s.isActive && s.planner.st == .idle && !s.isHeld && s.meas.fresh

/-- A comparator asks for an evaluation: taken with the timer started afresh, or dropped with the timer left (R127, R128). -/
def State.evalOnTrigger (s : State) : State := if s.canEvaluate then s.startEval.evaluate else s

/-! ### Withdrawal and conclusion -/

/-- Set the results of every position to SKIPPED (R137). -/
def Plan.allSkipped (p : Plan) : List MoveResult := List.replicate p.moves.length .skipped

/-- The planner withdraws: an OUTCOME WITHDRAWN offered, the number recorded as concluded, back to IDLE (R137). -/
def State.withdraw (s : State) : State :=
  let results := (s.planner.plan.map Plan.allSkipped).getD []
  ((s.offerOutcome s.planner.intentNo false results).modPlanner fun p => { p with last := some p.intentNo }).plannerIdle

/-- The position of the plan move in flight, if one is (R59). -/
def State.planMoveInFlight (s : State) : Option Nat :=
  match s.engine.req with
  | some (.move m) => if m.rescue then none else some m.pos
  | some (.recovery _ _ _) | some (.check _ _) | some (.inventory _ _) | none => none

/-- The results of a plan as an OUTCOME reports them. -/
def Plan.reported (p : Plan) : List MoveResult := p.results.map fun r => r.getD .skipped

/-- The intent concludes once every position has a result and no plan move is in flight: an OUTCOME COMPLETED and
PLAN_CONCLUDED in ACTIVE, neither outside it; then back to IDLE with the number as last concluded (R145, R146). -/
def State.concludePlan (s : State) : State :=
  match s.planner.plan with
  | none => s
  | some p =>
    if s.planner.st = .executing ∧ p.results.all (·.isSome) ∧ s.planMoveInFlight = none then
      (((s.offerOutcome s.planner.intentNo true p.reported).setFlagIf s.isActive .planConcluded).modPlanner
        fun q => { q with last := some q.intentNo }).plannerIdle
    else s

/-- The engine reports a move's result; one for a position that has a result, or while not EXECUTING, is ignored (R143). -/
def State.planResult (pos : Nat) (r : MoveResult) (s : State) : State :=
  match s.planner.plan with
  | none => s
  | some p =>
    if s.planner.st = .executing ∧ p.results[pos]? = some none then
      (s.modPlanner fun q =>
        { q with plan := some { p with results := p.results.set pos (some r), concluded := p.concluded + 1 } }).concludePlan
    else s

/-- A plan whose untaken positions are SKIPPED, but for one in flight (R144). -/
def Plan.ceased (flight : Option Nat) (p : Plan) : Plan :=
  { p with results := p.results.mapIdx fun i r =>
      if r.isNone && decide (i < p.kept) && flight != some i then some .skipped else r }

/-- The planner ceases to offer moves in EXECUTING (R144). -/
def State.ceaseOffering (s : State) : State :=
  (s.modPlanner fun p => { p with plan := p.plan.map (Plan.ceased s.planMoveInFlight) }).concludePlan

/-- The plan move the arbiter may take: the lowest position below the kept count that has no result and is not in flight
(R61). -/
def State.offeredMove (s : State) : Option (Nat × Move) :=
  match s.planner.plan with
  | none => none
  | some p =>
    if s.planner.st = .executing ∧ s.planMoveInFlight = none then
      match (List.range p.kept).find? fun k => p.results[k]? == some none with
      | some k => (p.moves[k]?).map fun m => (k, m)
      | none => none
    else none

/-! ### Recheck (R136) -/

/-- A plan cut to `k` kept moves, the cut ones SKIPPED. -/
def Plan.cut (k : Nat) (p : Plan) : Plan :=
  { p with kept := k, results := p.results.mapIdx fun i r => if k ≤ i then some .skipped else r }

/-- The planner rechecks its kept moves: a kept count of 0 withdraws, any other cuts the rest (R136). -/
def State.recheck (s : State) : State :=
  match s.planner.plan with
  | none => s
  | some p =>
    match s.recheckCount (p.moves.take p.kept) with
    | 0 => s.withdraw
    | k + 1 => s.modPlanner fun q => { q with plan := some (p.cut (k + 1)) }

/-! ### Events in each state (section 8.7) -/

/-- Note an event whose removal of the INTENT came too late (R132). -/
def State.note (n : Noted) : State → State := State.modPlanner fun p => { p with noted := p.noted ++ [n] }

/-- The rebuild in ANNOUNCING: a new INTENT under the next number, or the plan dropped (R140). -/
def State.rebuild (s : State) : State :=
  if s.meas.fresh then
    match s.buildPlan with
    | [] => s.plannerIdle
    | m :: rest => s.announce (m :: rest)
  else s.plannerIdle

/-- The table hands INTENT STORED (R140). -/
def State.onPeerIntent (s : State) : State :=
  match s.planner.st with
  | .idle | .executing => s
  | .announcing => if s.line.removalTooLate then s.note .peerIntent else s.removeIntent.rebuild
  | .awaiting | .held => s.recheck

/-- The station becomes held, or a phase is lost: the same effect by state (R141, R142), noted as `n` when the removal is too
late. -/
def State.onSetback (n : Noted) (s : State) : State :=
  match s.planner.st with
  | .idle => s
  | .announcing => if s.line.removalTooLate then s.note n else s.removeIntent.plannerIdle
  | .awaiting | .held => s.withdraw
  | .executing => s.ceaseOffering

/-- The station becomes held (R141). -/
def State.becomesHeld : State → State := State.onSetback .becameHeld

/-- The planner takes a phase-loss event (R142). -/
def State.plannerPhaseLoss : State → State := State.onSetback .phaseLoss

/-- The planner issues an own hold: the remaining time becomes the larger, a HOLD is offered, and a station that was not held
becomes held (R131). -/
def State.issueHold (dur : Nat) (reason : Reason) (s : State) : State :=
  let t := (s.modPlanner fun p => { p with ownHold := max p.ownHold dur }).offerHold dur reason
  if s.isHeld then t else if 0 < dur then t.becomesHeld else t

/-- One noted event taken in AWAITING as its own rule directs; a "becomes held" only while still held (R132). -/
def State.takeNoted (s : State) (n : Noted) : State :=
  if s.planner.st = .awaiting then
    match n with
    | .peerIntent => s.recheck
    | .becameHeld => if s.isHeld then s.withdraw else s
    | .phaseLoss => s.withdraw
  else s

/-- The pairs the neighbour table supplies: every FRESH entry with a pending intent, in slot order (R123). -/
def State.pendingPairs (s : State) : List PrecPair :=
  s.nbrs.filterMap fun e =>
    e.bind fun x => if x.fresh then x.intent.map fun i => ⟨x.addr, i.num⟩ else none

/-- The own INTENT's transmission is complete: timers, precedence list, AWAITING, and then the noted events (R134). -/
def State.announcement (num : Byte) (s : State) : State :=
  if s.planner.st = .announcing ∧ s.planner.intentNo = num then
    let t := s.drawn.modPlanner fun p =>
      { p with
        st := .awaiting
        announceT := none
        listenT := some (s.conf.listen + s.drawValue 1)
        lifetimeT := some s.conf.lifetime
        prec := s.pendingPairs
        noted := [] }
    s.planner.noted.foldl State.takeNoted t
  else s

end Sys2Proof.Machine
end

