-- ==== Sys2Proof/Machine/Engine.lean ====
section
/-! DEFINITION. The transfer engine (chapter 4): its arbiter, the taking of requests, the steps of a move, conclusions,
and the rescue list. The answers and timeouts that drive it stand in Machine/Answers.lean and Machine/Timeouts.lean. -/

namespace Sys2Proof.Machine

/-- Change the engine. -/
def State.modEngine (f : Engine → Engine) (s : State) : State := { s with engine := f s.engine }

/-- Fill in the request record, or clear it (R59). -/
def State.setReq (r : Option Req) : State → State := State.modEngine fun e => { e with req := r }

/-! ### The command outstanding (R57) -/

/-- The command a move has outstanding at its step. -/
def MoveReq.outstanding (m : MoveReq) : Option ModCmd :=
  match m.step with
  | .arming => some (.arm m.conn)
  | .breakSent => some (.break m.conn)
  | .breakQuery => some (.query m.conn)
  | .making => some (.make m.conn m.dst)
  | .fbMake t => some (.make m.conn t)
  | .breakWait | .gap | .fbWait _ | .settling => none

/-- The command outstanding on the module link: at most one, because it follows from the one request in flight. -/
def Req.outstanding : Req → Option ModCmd
  | .move m => m.outstanding
  | .recovery i .query _ => some (.query i)
  | .recovery i (.make t) _ => some (.make i t)
  | .recovery _ (.wait _) _ => none
  | .check i _ => some (.query i)
  | .inventory i _ => some (.query i)

/-- The timeouts in cycles (R57), and the limit of a crossing wait (R66, R68, R73). -/
def armCycles : Nat := 5
def breakCycles : Nat := 3
def makeCycles : Nat := 3
def queryCycles : Nat := 5
def waitCycles : Nat := 2

/-- `n` cycles counted toward the running timeout or wait (R58). -/
def Req.count (n : Nat) : Req → Req
  | .move m => .move { m with cycles := m.cycles - n }
  | .recovery i st k => .recovery i st (k - n)
  | .check i k => .check i (k - n)
  | .inventory i k => .inventory i (k - n)

/-- `n` cycles pass: they count toward the engine's running timeout or wait, and in the access, which takes the end of its gap and of
its deferral with the cycle that brings it (R58, R104, R105). So a transmission that a cycle starts comes before the row of a timeout
that the same cycle brings to 0 (R108). (DESIGN CHOICE, log entry 37, unsafe) -/
def State.cyclesPass (n : Nat) (s : State) : State :=
  State.accessCycles n { s with engine := { s.engine with req := s.engine.req.map (Req.count n) } }

/-- The state at the end of a count of cycles of which `n` are left: the present one when none is left. While no cycle events come,
the row of the end says that the nominal cycles left have passed, and all of them are counted first (R58). Otherwise the end has
not come. (DESIGN CHOICE, log entry 3, unsafe, and log entry 26, safe) -/
def State.atCountEnd (n : Nat) (s : State) : Option State :=
  if n = 0 then some s else if s.noCycles then some (s.cyclesPass n) else none

/-! ### The rescue list (section 4.6) -/

/-- The index is on the rescue list. -/
def Engine.lists (e : Engine) (i : Nat) : Bool := e.rescue.any fun x => x.conn == i

/-- Append a connection for the lost phase `x`, with its held reading; one already on the list keeps its place (R53, R76). -/
def State.appendRescue (x : Phase) (s : State) (i : Nat) : State :=
  if s.engine.lists i then s
  else s.modEngine fun e => { e with rescue := e.rescue ++ [⟨i, (s.held i).value, x⟩] }

/-- The connections selected at a phase-loss event are appended in index order, in ACTIVE only (R53, R76). -/
def State.appendSelected (x : Phase) (s : State) : State :=
  if s.isActive then ((List.range 32).filter fun i => s.rescueSelected x i).foldl (State.appendRescue x) s else s

/-- A connection that concluded STEADY or RESTING on a LOST phase is appended, in ACTIVE and when MOVABLE (R76). -/
def State.appendStranded (i : Nat) (s : State) : State :=
  match (s.conn i).cur with
  | some x =>
    if s.isActive ∧ s.attrOf i = .movable ∧ ((s.conn i).st = .steady ∨ (s.conn i).st = .resting) ∧ s.present x = false then
      s.appendRescue x i
    else s
  | none => s

/-- Whether the request in flight is a rescue move. -/
def Engine.rescueInFlight (e : Engine) : Bool :=
  match e.req with
  | some (.move m) => m.rescue
  | some (.recovery _ _ _) | some (.check _ _) | some (.inventory _ _) | none => false

/-- The rescue list is empty with the rescue-done mark set and no rescue move in flight: RESCUE_CONCLUDED, a LOAD offered at
once, the mark cleared (R78). -/
def State.rescueEmptied (s : State) : State :=
  if s.engine.rescue = [] ∧ s.engine.rescueDone ∧ s.engine.rescueInFlight = false then
    ((s.setFlag .rescueConcluded).offerLoad).modEngine fun e => { e with rescueDone := false }
  else s

/-! ### Taking requests (section 4.3) -/

/-- The engine takes a move: ARM is sent, the connection enters MOVING and its held reading is copied as the pre-move value
(R12, R24, R64). -/
def State.takeMove (m : MoveReq) (s : State) : State :=
  let t := s.modConn m.conn fun c => { c with st := .moving, note := some ⟨m.rescue, m.src, m.dst⟩ }
  let u := t.modHeld m.conn fun h => { h with preMove := some h.value }
  (u.setReq (some (.move { m with step := .arming, cycles := armCycles }))).sendCommand (.arm m.conn)

/-- The arbiter takes a plan move: SKIPPED at once when the move check or the allowance fails, and otherwise ARMING (R62). -/
def State.takePlanMove (pos : Nat) (m : Move) (s : State) : State :=
  if s.moveCheck m ∧ 1 ≤ s.allowance then
    s.takeMove ⟨false, m.conn, m.src, m.dst, m.cur, pos, .arming, armCycles⟩
  else s.planResult pos .skipped

/-- The arbiter takes the head of the rescue list: the entry leaves the list, and the take check and the target decide
(R63, R54, R56). -/
def State.takeRescue (x : RescueEntry) (s : State) : State :=
  let t := s.modEngine fun e => { e with rescue := e.rescue.tail }
  match t.rescueFrom x.conn with
  | none => t.rescueEmptied
  | some p =>
    match t.rescueTarget x.conn p x.cur with
    | none => (t.setFlag .rescueIncomplete).rescueEmptied
    | some q => t.takeMove ⟨true, x.conn, p, q, x.cur, 0, .arming, armCycles⟩

/-- The due member of the recovery set with the lowest index (R30, R61). -/
def State.dueMember (s : State) : Option (Nat × RecKind) :=
  (List.range 32).findSome? fun i =>
    match (s.conn i).member with
    | some k => if k.retry = 0 then some (i, k.kind) else none
    | none => none

/-- The arbiter takes a due member: a QUERY is sent for its recovery or its release check (R73, R75). -/
def State.takeMember (i : Nat) (kind : RecKind) (s : State) : State :=
  let r : Req := match kind with
    | .recover => .recovery i .query queryCycles
    | .check => .check i queryCycles
  (s.setReq (some r)).sendCommand (.query i)

/-- The next inventory query is sent, while RESETN is high and a configured connection is left (R75, R175). -/
def State.takeInventory (s : State) : State :=
  if s.pins.resetnLow = false ∧ s.configured s.engine.invNext then
    (s.setReq (some (.inventory s.engine.invNext queryCycles))).sendCommand (.query s.engine.invNext)
  else s

/-- The arbiter's look at its sources, repeated until a request is taken or none is offered; each look that dismisses one
leaves fewer, and `n` bounds the looks (R60). -/
def State.arbiter : Nat → State → State
  | 0, s => s
  | n + 1, s =>
    if s.engine.req.isSome then s else
      match s.mode with
      | .loading | .configFault | .blackout => s
      | .inventory => s.takeInventory
      | .listenOnly =>
        match s.dueMember with
        | some (i, k) => s.takeMember i k
        | none => s
      | .active =>
        match s.dueMember with
        | some (i, k) => s.takeMember i k
        | none =>
          match s.engine.rescue with
          | x :: _ => State.arbiter n (s.takeRescue x)
          | [] =>
            match s.offeredMove with
            | some (pos, m) => State.arbiter n (s.takePlanMove pos m)
            | none => s

/-- The arbiter looks at its sources (R60). Every dismissal removes a rescue entry or settles a position of the plan. -/
def State.arbitrate (s : State) : State :=
  s.arbiter (s.engine.rescue.length + ((s.planner.plan.map (·.kept)).getD 0) + 1)

/-! ### Conclusions (R72) -/

/-- How a move ends: DONE; SKIPPED on NOT_READY or on READY naming another path; FAILED supplied on a phase or not supplied. -/
inductive Conclusion where
  | done | notReady | skippedOn (r : Phase) | failedOn (x : Phase) | failedDark
deriving DecidableEq, Repr

/-- What the planner is told (R143). -/
def Conclusion.result : Conclusion → MoveResult
  | .done => .done
  | .notReady | .skippedOn _ => .skipped
  | .failedOn _ | .failedDark => .failed

/-- The connection record at a conclusion (R25, R26, R27). `dwell` is the configured dwell. A rescue that leaves the connection RESTING
with no dwell marks it for the next seconds tick (R25, R28). -/
def Conn.conclude (rescue : Bool) (dwell : Nat) (allowed : Phase → Bool) (k : Conclusion) (c : Conn) : Conn :=
  let d := { c with note := none }
  match k with
  | .done => { d with st := .resting, dwell := if rescue then d.dwell else dwell, unticked := rescue && d.dwell == 0 }
  | .notReady => { d with st := d.restOrSteady }
  | .skippedOn r => d.foundOn r (allowed r)
  | .failedOn x => { d with st := .faulted, cur := some x }
  | .failedDark => d.goDark retryWait

/-- The fault and notice flags of a conclusion (R72, R64). `outside` says that a path outside the allowed set was named. -/
def State.flagConclusion (rescue outside silent : Bool) (k : Conclusion) (s : State) : State :=
  let t := s.setFlagIf silent .moduleSilent
  match k with
  | .done => t
  | .notReady => t.setFlagIf rescue .rescueIncomplete
  | .skippedOn _ => t.setFlagIf outside .transferFailed
  | .failedOn _ => t.setFlag .transferFailed
  | .failedDark => (t.setFlag .transferFailed).setFlag .connectionDark

/-- Step 1 of R72: the record is set, the pre-move value dropped, a stranded connection appended (R12, R76), and a rescue DONE
in ACTIVE marked (R78). -/
def State.recordConclusion (m : MoveReq) (k : Conclusion) (s : State) : State :=
  let t := (s.modConn m.conn (Conn.conclude m.rescue s.conf.dwell (s.allows m.conn) k)).modHeld m.conn
    fun h => { h with preMove := none }
  let u := if k = .notReady ∧ m.rescue then t else t.appendStranded m.conn
  if k = .done ∧ m.rescue ∧ u.isActive then u.modEngine fun e => { e with rescueDone := true } else u

/-- A move concludes, and its results are handed on in the order of R72. -/
def State.concludeMove (m : MoveReq) (k : Conclusion) (silent holdAsked : Bool) (s : State) : State :=
  let outside := match k with
    | .skippedOn r => !s.allows m.conn r
    | .done | .notReady | .failedOn _ | .failedDark => false
  let t := ((s.recordConclusion m k).flagConclusion m.rescue outside silent k).setReq none
  let u := if m.rescue then t.rescueEmptied else t.planResult m.pos k.result
  let v := if holdAsked ∧ u.isActive then u.issueHold u.conf.holdTime .darkConnection else u
  v.arbitrate

/-! ### Steps of a move (section 4.4) -/

/-- A move in flight at another step, with a count of cycles started. -/
def State.atStep (m : MoveReq) (st : MoveStep) (n : Nat) : State → State :=
  State.setReq (some (.move { m with step := st, cycles := n }))

/-- BREAK is sent (R65). -/
def State.sendBreak (m : MoveReq) (s : State) : State :=
  (s.atStep m .breakSent breakCycles).sendCommand (.break m.conn)

/-- BREAKING is entered: BREAK waits for a crossing of the from-phase, and is sent at once when that phase is LOST (R65). -/
def State.enterBreaking (m : MoveReq) (s : State) : State :=
  if s.present m.src then s.atStep m .breakWait 0 else s.sendBreak m

/-- FALLBACK fails: FAILED, not supplied, and a HOLD is asked for (R69). -/
def State.failFallback (m : MoveReq) (s : State) : State := s.concludeMove m .failedDark false true

/-- FALLBACK is entered: a target is chosen and its crossing awaited, or FALLBACK fails at once (R68). -/
def State.enterFallback (m : MoveReq) (s : State) : State :=
  match s.fallbackTarget m with
  | some t => s.atStep m (.fbWait t) waitCycles
  | none => s.failFallback m

/-- GAP is entered: the target's crossing is awaited, or FALLBACK entered when the target is LOST (R66). -/
def State.enterGap (m : MoveReq) (s : State) : State :=
  if s.present m.dst then s.atStep m .gap waitCycles else s.enterFallback m

/-- SETTLING is entered: the move concludes DONE at once when the measurement is STALE (R70). -/
def State.enterSettling (m : MoveReq) (s : State) : State :=
  if s.meas.fresh then s.atStep m .settling 0 else s.concludeMove m .done false false

/-- SETTLING ends, and the move concludes DONE (R70). -/
def State.endSettling (s : State) : State :=
  match s.engine.req with
  | some (.move m) => if m.step = .settling then s.concludeMove m .done false false else s
  | some (.recovery _ _ _) | some (.check _ _) | some (.inventory _ _) | none => s

/-! ### Recovery, release checks and inventory (section 4.5) -/

/-- A recovery or release check has set its record: the engine becomes FREE, a connection left on a LOST phase is appended, and
the arbiter looks at its sources (R76, R60). -/
def State.finishRecovery (i : Nat) (s : State) : State := ((s.setReq none).appendStranded i).arbitrate

/-- A recovery finds or closes a path: on an allowed phase the recovery succeeded, on another the connection is FAULTED; either
way it leaves the set (R31). -/
def State.recoveredOn (i : Nat) (x : Phase) (ok : Bool) (s : State) : State :=
  (s.modConn i fun c => (c.foundOn x ok).leaveSet).finishRecovery i

/-- The record after a failed recovery attempt (R31). -/
def Conn.attemptFailed (c : Conn) : Conn :=
  if c.attempts + 1 < maxAttempts then { c with attempts := c.attempts + 1, member := c.member.map fun k => { k with retry := retryWait } }
  else { c with attempts := c.attempts + 1, st := .darkLocked, member := none }

/-- A recovery attempt failed; at the entry to DARK_LOCKED the engine sets CONNECTION_DARK (R31, R73). -/
def State.attemptFailed (i : Nat) (s : State) : State :=
  let locked := decide (maxAttempts ≤ (s.conn i).attempts + 1)
  ((s.modConn i Conn.attemptFailed).setFlagIf locked .connectionDark).finishRecovery i

/-- The retry remaining of a member is set, its attempts left as they are (R74, R80). -/
def Conn.setRetry (n : Nat) (c : Conn) : Conn := { c with member := c.member.map fun k => { k with retry := n } }

/-- A recovery attempt is not made and not counted: no allowed phase is PRESENT (R74). -/
def State.attemptNotMade (i : Nat) (s : State) : State := (s.modConn i (Conn.setRetry retryWait)).finishRecovery i

/-- A recovery QUERY has named no closed path: a target is chosen and its crossing awaited (R73, R74). -/
def State.recoverDark (i : Nat) (s : State) : State :=
  let t := s.modConn i fun c => { c with cur := none }
  match t.recoveryTarget i with
  | some x => t.setReq (some (.recovery i (.wait x) waitCycles))
  | none => t.attemptNotMade i

/-- The record after a release check: its answer, or its absence (R34). The outer absence is no answer, the inner one no path
closed. -/
def Conn.checked (allowed : Phase → Bool) (answer : Option (Option Phase)) (c : Conn) : Conn :=
  let d := { c with releasePending := false, member := none }
  match answer with
  | some (some x) => d.foundOn x (allowed x)
  | some none => d.goDark retryWait
  | none => d

/-- A release check concludes (R34, R75). -/
def State.releaseChecked (i : Nat) (answer : Option (Option Phase)) (s : State) : State :=
  ((s.modConn i (Conn.checked (s.allows i) answer)).setFlagIf answer.isNone .moduleSilent).finishRecovery i

/-- The record after its inventory query (R33). -/
def Conn.inventoried (allowed : Phase → Bool) (answer : Option (Option Phase)) (c : Conn) : Conn :=
  match answer with
  | some (some x) => c.foundOn x (allowed x)
  | some none => c.goDark 0
  | none => c

end Sys2Proof.Machine
end

