-- ==== Sys2Proof/Machine/Station.lean ====
section
/-! DEFINITION. The station mode machine and phase events (chapters 1 and 10): entry to each mode, the restart event, the
reference phase, and what a phase loss and a phase return do. -/

namespace Sys2Proof.Machine

/-- Change mode, timer and override state. -/
def State.modStation (f : Station → Station) (s : State) : State := { s with station := f s.station }

/-- Change the timebase. -/
def State.modTime (f : Time → Time) (s : State) : State := { s with time := f s.time }

/-- Change what supervision holds for one phase. -/
def State.modPhase (p : Phase) (f : PhaseSup → PhaseSup) (s : State) : State :=
  { s with phases := s.phases.set p (f (s.phases.get p)) }

/-- Enter a mode; the listen-only timer runs in LISTEN_ONLY alone. -/
def State.enterMode (m : Mode) (t : Option Nat) : State → State :=
  State.modStation fun x => { x with mode := m, listenOnly := t }

/-! ### Mode entries (section 10.3) -/

/-- LISTEN_ONLY is entered: its timer starts with three report intervals, and the arbiter looks at its sources (R171, R60). -/
def State.enterListenOnly (s : State) : State := (s.enterMode .listenOnly (some (3 * s.conf.report))).arbitrate

/-- ACTIVE is entered: planner timers and budget timers start, the overrides close (R172). -/
def State.enterActive (s : State) : State :=
  ((((s.enterMode .active none).modStation fun x => { x with overridesOpen := false }).startEval.startReport).startBudget).arbitrate

/-- How a move in flight at the entry to BLACKOUT concludes, by its step (R80). -/
def MoveReq.abandoned (m : MoveReq) : Conclusion :=
  match m.step with
  | .arming | .breakWait | .breakSent | .breakQuery => .failedOn m.src
  | .gap | .making | .fbWait _ | .fbMake _ => .failedDark
  | .settling => .done

/-- The engine abandons its request in flight at the entry to BLACKOUT (R80). -/
def State.abandonRequest (s : State) : State :=
  match s.engine.req with
  | some (.move m) => s.concludeMove m m.abandoned false false
  | some (.recovery i _ _) => (s.modConn i (Conn.setRetry retryWait)).setReq none
  | some (.check i _) => (s.modConn i (Conn.setRetry 0)).setReq none
  | some (.inventory _ _) => s.setReq none
  | none => s

/-- BLACKOUT is entered: the line queue is emptied, the planner returns to IDLE, the rescue list and its mark are cleared, and
the request in flight is abandoned (R173, R107, R146, R80). -/
def State.enterBlackout (s : State) : State :=
  ((((s.enterMode .blackout none).clearLine).modPlanner Planner.leaveActive).modEngine
    fun e => { e with rescue := [], rescueDone := false }).abandonRequest

/-- A record as INVENTORY starts it (R32). -/
def Conn.uninventoried : Conn :=
  ⟨.faulted, none, 0, 0, false, none, none, false⟩

/-- INVENTORY begins: every configured record is FAULTED with no current phase, the recovery set is empty, and the queries start
from index 0, while RESETN is high (R32, R170, R175). -/
def State.beginInventory (s : State) : State :=
  let t := { s with conns := s.conns.mapIdx fun i c => if s.configured i then Conn.uninventoried else c }
  ((t.enterMode .inventory none).modEngine fun e => { e with req := none, invNext := 0 }).arbitrate

/-- An inventory query concludes: the next is sent, or after the last configured connection the station enters LISTEN_ONLY
(R75, R170). -/
def State.finishInventoryQuery (i : Nat) (s : State) : State :=
  let t := s.modEngine fun e => { e with req := none, invNext := i + 1 }
  if t.configured (i + 1) then t.arbitrate else t.enterListenOnly

/-- An inventory query's answer, or its absence, sets its record (R33). -/
def State.inventoryAnswer (i : Nat) (answer : Option (Option Phase)) (s : State) : State :=
  ((s.modConn i (Conn.inventoried (s.allows i) answer)).setFlagIf answer.isNone .moduleSilent).finishInventoryQuery i

/-! ### Restart (R175) -/

/-- The measurement block at a restart; a record being read goes on being read (R11 to R15).
(DEDUCED, log entry 20, unsafe) -/
def Meas.restarted (m : Meas) : Meas := { Meas.initial with reading := m.reading }

/-- The restart event: every block takes its restart values, and INVENTORY is entered (R175). -/
def State.restartEvent (s : State) : State :=
  State.beginInventory
    { s with
      time := { Time.initial with ref := s.time.ref }
      meas := s.meas.restarted
      engine := Engine.initial
      budget := Budget.initial
      line := Line.initial
      nbrs := List.replicate 16 none
      planner := Planner.initial s.planner.intentNo
      comps := List.replicate 4 false
      flags := 0
      svc := Svc.initial }

/-! ### Phase events (R4, R5, R9) -/

/-- The phase the presence states choose as the reference (R4). -/
def State.chosenRef (s : State) : Option Phase :=
  if s.present .A then some .A else if s.present .B then some .B else if s.present .C then some .C else none

/-- The reference phase is chosen again (R4). A choice that names a different phase starts a changeover; the first phase to come
back after none was PRESENT is counted from its first crossing. With no phase PRESENT the tick source is HOLDOVER and the
divider's count is dropped (R5). -/
def State.chooseRef (s : State) : State :=
  let r := s.chosenRef
  if r = s.time.ref then s
  else
    match r with
    | none => s.modTime fun t => { t with ref := none, changing := false, source := .holdover, divider := 0 }
    | some _ => s.modTime fun t => { t with ref := r, changing := t.ref.isSome }

/-- What the loss of a phase does to the request in flight (R79). -/
def State.engineLoss (x : Phase) (s : State) : State :=
  match s.engine.req with
  | some (.move m) =>
    match m.step with
    | .breakWait => if m.src = x then s.sendBreak m else s
    | .gap => if m.dst = x then s.enterFallback m else s
    | .fbWait t => if t = x then s.failFallback m else s
    | .arming | .breakSent | .breakQuery | .making | .fbMake _ | .settling => s
  | some (.recovery i (.wait t) _) => if t = x then s.attemptFailed i else s
  | some (.recovery _ .query _) | some (.recovery _ (.make _) _) | some (.check _ _) | some (.inventory _ _) => s
  | none => s.arbitrate

/-- The mode machine takes the loss of the last phase: ACTIVE and LISTEN_ONLY go to BLACKOUT (R171, R172, R173). -/
def State.lossLeadsToBlackout (s : State) : Bool :=
  !s.anyPresent && (s.mode == .active || s.mode == .listenOnly)

/-- A phase-loss event: the phase is LOST with return count 0, PHASE_LOST is set, the reference is chosen again, and the engine,
the planner and the mode machine take the loss (R6, R7, R9). When it leaves all phases LOST, the entry to BLACKOUT may be taken
before the engine and the planner take the loss, or after (R146): a random draw decides. R146 has both orders end with the same
state; with the loss first, the mode still ACTIVE, R145 sets PLAN_CONCLUDED, R69 sets the own hold, R63 RESCUE_INCOMPLETE and R73
counts a recovery's attempt, none of which the other order has, and the model leaves that difference to the draw.
(DESIGN CHOICE, log entry 8, safe, and log entry 35, safe; DEDUCED, log entry 9, unsafe) -/
def State.phaseLoss (x : Phase) (s : State) : State :=
  let t := ((s.modPhase x fun p => { p with present := false, watch := false, returns := 0 }).setFlag .phaseLost).chooseRef
  if t.lossLeadsToBlackout then
    if t.drawValue 1 = 0 then t.drawn.enterBlackout
    else
      let u := ((t.drawn.appendSelected x).engineLoss x).plannerPhaseLoss
      u.enterBlackout
  else ((t.appendSelected x).engineLoss x).plannerPhaseLoss

/-- A phase-return event: the phase is PRESENT with its watch started, PHASE_RETURNED is set, the reference is chosen again, the
rescue entries waiting for it leave the list, and the first phase back ends BLACKOUT or starts the listen-only timer afresh (R8,
R9, R77, R171, R173). -/
def State.phaseReturn (x : Phase) (s : State) : State :=
  let first := !s.anyPresent
  let t := ((s.modPhase x fun p => { p with present := true, watch := true, returns := 0 }).setFlag .phaseReturned).chooseRef
  let u := (t.modEngine fun e => { e with rescue := e.rescue.filter fun r => r.lost != x }).rescueEmptied
  match u.mode with
  | .blackout => u.enterListenOnly
  | .listenOnly => if first then u.enterMode .listenOnly (some (3 * u.conf.report)) else u
  | .loading | .configFault | .inventory | .active => u

end Sys2Proof.Machine
end

