-- ==== Sys2Proof/Machine/Coordination.lean ====
section
/-! DEFINITION. The neighbour table (chapter 7) and what its notices do in the planner (sections 8.5 and 8.6): the release
to EXECUTING, the precedence list, storing of frames, and the ends of ages, lifetimes and holds. -/

namespace Sys2Proof.Machine

/-! ### Release and precedence (R135, R138) -/

/-- The planner is released: the listen timer stops, a recheck is taken, and with a plan left the planner enters EXECUTING, its
lifetime timer stopped, and the arbiter looks at its sources (R138, R60). -/
def State.releasePlanner (s : State) : State :=
  let t := (s.modPlanner fun p => { p with listenT := none }).recheck
  if t.planner.plan.isSome then
    (t.modPlanner fun p => { p with st := .executing, lifetimeT := none }).arbitrate
  else t

/-- Pairs leave the precedence list; a removal that empties it in HELD releases the planner (R135). -/
def State.removePairs (gone : PrecPair → Bool) (s : State) : State :=
  let t := s.modPlanner fun p => { p with prec := p.prec.filter fun k => !gone k }
  if s.planner.st = .held ∧ s.planner.prec ≠ [] ∧ t.planner.prec = [] then t.releasePlanner else t

/-- Notices that name an address and a number: INTENT CLEARED, OUTCOME HEARD, LOAD HEARD (R135). -/
def State.onNumber (addr : Nat) (num : Byte) : State → State := State.removePairs fun k => k.addr == addr && k.num == num

/-- Notices that name an address: ENTRY STALE, ENTRY REMOVED (R135). -/
def State.onEntryGone (addr : Nat) : State → State := State.removePairs fun k => k.addr == addr

/-- INTENT CLEARED for a pending intent, when one was there (R117). -/
def State.onCleared (addr : Nat) (i : Option PIntent) (s : State) : State :=
  match i with
  | some x => s.onNumber addr x.num
  | none => s

/-! ### Entries (section 7.1) -/

/-- A neighbour table slot. -/
def State.slot (s : State) (k : Nat) : Option Entry := s.nbrs.getD k none

/-- Write a neighbour table slot. -/
def State.setSlot (k : Nat) (e : Option Entry) (s : State) : State := { s with nbrs := s.nbrs.set k e }

/-- The stale age: three report intervals (R109). -/
def State.staleAfter (s : State) : Nat := 3 * s.conf.report

/-- The forget age: ten report intervals (R109). -/
def State.forgetAfter (s : State) : Nat := 10 * s.conf.report

/-- A new entry (R109, R111). -/
def Entry.create (addr : Nat) : Entry := ⟨addr, true, 0, none, none, none, 0, none, none⟩

/-- A refreshed entry: age 0, FRESH (R110). -/
def Entry.refresh (e : Entry) : Entry := { e with age := 0, fresh := true }

/-- The slot that holds an address. -/
def State.slotOf (s : State) (addr : Nat) : Option Nat :=
  s.nbrs.findIdx? fun e => e.any fun x => x.addr == addr

/-- The lowest empty slot. -/
def State.emptySlot (s : State) : Option Nat := s.nbrs.findIdx? fun e => e.isNone

/-- The greatest age of a STALE entry, if there is one (R112). -/
def State.oldestStale (s : State) : Option Nat :=
  s.nbrs.foldl
    (fun best e =>
      match e with
      | some x => if x.fresh then best else some (max x.age (best.getD 0))
      | none => best)
    none

/-- The lowest slot of a STALE entry of the greatest age (R112). -/
def State.replaceableSlot (s : State) : Option Nat :=
  match s.oldestStale with
  | some a => s.nbrs.findIdx? fun e => e.any fun x => !x.fresh && x.age == a
  | none => none

/-- Where a frame from an address is stored: the slot, the entry refreshed or new, and the entry it replaces (R110, R111, R112).
Nothing when the table is full of FRESH entries. -/
def State.place (s : State) (addr : Nat) : Option (Nat × Entry × Option Entry) :=
  match s.slotOf addr with
  | some k => (s.slot k).map fun e => (k, e.refresh, none)
  | none =>
    match s.emptySlot with
    | some k => some (k, Entry.create addr, none)
    | none => s.replaceableSlot.map fun k => (k, Entry.create addr, s.slot k)

/-! ### Storing by kind (section 7.3) -/

/-- Clear the pending intent when its number is the one named (R113, R115). -/
def Entry.clearMatching (num : Option Byte) (e : Entry) : Entry :=
  match num, e.intent with
  | some n, some i => if i.num = n then { e with intent := none } else e
  | _, _ => e

/-- Store a LOAD (R113). -/
def Entry.storeLoad (b : LoadBody) (e : Entry) : Entry :=
  { (Entry.clearMatching b.last e) with
    vec := some b.vec
    info := some ⟨b.counts, b.stale, b.throttled, b.executing⟩
    last := b.last
    concluded := b.concluded }

/-- Store an INTENT (R114). -/
def Entry.storeIntent (b : IntentBody) (e : Entry) : Entry :=
  { e with intent := some ⟨b.num, b.moves, b.life⟩, concluded := 0 }

/-- Store an OUTCOME (R115). -/
def Entry.storeOutcome (b : OutcomeBody) (e : Entry) : Entry :=
  { (Entry.clearMatching (some b.num) e) with vec := some b.vec, last := some b.num }

/-- A stored hold after a HOLD frame: never shortened (R116). -/
def mergePeerHold (h : Option PHold) (b : HoldBody) : PHold :=
  match h with
  | none => ⟨b.dur, b.reason⟩
  | some x => if x.left < b.dur then ⟨b.dur, b.reason⟩ else if x.left = b.dur then ⟨x.left, b.reason⟩ else x

/-- Store a HOLD (R116). -/
def Entry.storeHold (b : HoldBody) (e : Entry) : Entry := { e with hold := some (mergePeerHold e.hold b) }

/-- The entry with the frame's contents stored. -/
def Entry.store (f : Frame) (e : Entry) : Entry :=
  match f with
  | .load b => e.storeLoad b
  | .intent b => e.storeIntent b
  | .outcome b => e.storeOutcome b
  | .hold b => e.storeHold b

/-- The pending intent that storing the frame clears, by replacement or by conclusion. -/
def Entry.clears (f : Frame) (e : Entry) : Option PIntent :=
  match f with
  | .intent _ => e.intent
  | .load _ | .outcome _ => if (e.store f).intent.isSome then none else e.intent
  | .hold _ => none

/-- The notices that name what the frame was: INTENT STORED, OUTCOME HEARD or LOAD HEARD (R117 items 3 to 5). -/
def State.onHeard (addr : Nat) (f : Frame) (s : State) : State :=
  match f with
  | .intent _ => s.onPeerIntent
  | .outcome b => s.onNumber addr b.num
  | .load b =>
    match b.last with
    | some n => s.onNumber addr n
    | none => s
  | .hold _ => s

/-- PEER HOLD CHANGE: the station becomes held when the peer-held condition turns true while the own hold is 0; its turning false
changes no planner state (R121, R130). -/
def State.onPeerHold (before : Bool) (s : State) : State :=
  if !before && s.peerHeld && s.planner.ownHold == 0 then s.becomesHeld else s

/-- A HOLD frame stored sets HOLD_HEARD (R116). -/
def State.flagHold (f : Frame) (s : State) : State :=
  match f with
  | .hold _ => s.setFlag .holdHeard
  | .load _ | .intent _ | .outcome _ => s

/-- The table takes a valid frame whole: it settles the entry, stores the contents, and hands its notices in the order of R117; a
frame from an unknown peer into a table full of FRESH entries is ignored with NEIGHBOUR_TABLE_FULL set (R112). -/
def State.takeFrame (addr : Nat) (f : Frame) (s : State) : State :=
  match s.place addr with
  | none => s.setFlag .tableFull
  | some (k, e, old) =>
    let t := (s.setSlot k (some (e.store f))).flagHold f
    let u := match old with
      | some o => (t.onEntryGone o.addr).onCleared o.addr o.intent
      | none => t
    ((u.onCleared addr (e.clears f)).onHeard addr f).onPeerHold s.peerHeld

/-- A frame validated: one from the own address sets ADDRESS_CLASH, any other is taken by the table (R100). -/
def State.frameHeard (addr : Nat) (f : Frame) (s : State) : State :=
  if addr = s.conf.address then s.setFlag .addressClash else s.takeFrame addr f

/-- A frame's carrier has ended: the frame is validated and handed on, or discarded without a trace (R98, R99, R100).
(DEDUCED, log entry 17, safe) -/
def State.receiveFrame (bytes : List Byte) (s : State) : State :=
  match s.heardFrame bytes with
  | some (addr, f) => s.endAssembly.frameHeard addr f
  | none => s.endAssembly

/-! ### Aging (section 7.5) -/

/-- An entry that has gone STALE (R118). -/
def Entry.staled (e : Entry) : Entry :=
  { e with fresh := false, intent := none, hold := none, vec := none, info := none, concluded := 0 }

/-- A pending intent after one second: cleared by the tick that brings its lifetime to 0 (R120). -/
def PIntent.second (i : PIntent) : Option PIntent := if i.life ≤ 1 then none else some { i with life := i.life - 1 }

/-- A hold after one second: cleared by the tick that brings it to 0 (R121). -/
def PHold.second (h : PHold) : Option PHold := if h.left ≤ 1 then none else some { h with left := h.left - 1 }

/-- One second in an entry, in the order of R121: its age rises; at the forget age it is removed; a FRESH one at the stale age goes
STALE; and a FRESH one's pending intent and hold are counted down and cleared at their ends (R118 to R121). -/
def Entry.second (staleAt forgetAt : Nat) (e : Entry) : Option Entry :=
  let a := e.age + 1
  if forgetAt ≤ a then none
  else if e.fresh then
    if staleAt ≤ a then some { e with age := a }.staled
    else some { e with age := a, intent := e.intent.bind PIntent.second, hold := e.hold.bind PHold.second }
  else some { e with age := a }

/-- The notices of one entry after a tick that made `e` of it: its removal or its going STALE, and the clearing of its pending intent,
once (R117). -/
def State.onEntrySecond (old : Entry) (e : Option Entry) (s : State) : State :=
  let t := if e.all fun x => old.fresh && !x.fresh then s.onEntryGone old.addr else s
  if (e.bind (·.intent)).isSome then t else t.onCleared old.addr old.intent

/-- A seconds tick's notices, handed in slot order once the whole table has taken the tick (R117). -/
def State.onTableSecond (before after : List (Option Entry)) (s : State) : State :=
  (before.zip after).foldl
    (fun t x =>
      match x.1 with
      | some old => t.onEntrySecond old x.2
      | none => t)
    s

/-- The planner takes a tick's notices. Where its own lifetime runs out at the tick whose notices release it, the expiry may be taken
first or the release (R148): a random draw decides. (DESIGN CHOICE, log entry 33, safe) -/
def State.noticesOrLapse (before after : List (Option Entry)) (s : State) : State :=
  let t := s.onTableSecond before after
  if s.planner.st = .held ∧ s.planner.lifetimeT = some 0 ∧ t.planner.st ≠ .held then
    if s.drawValue 1 = 0 then s.drawn.withdraw else s.drawn.onTableSecond before after
  else t

/-- The neighbour table takes a seconds tick whole: every entry in slot order, and then the notices, the peer-held condition judged
once at their end (R117 to R121). -/
def State.tableSecond (s : State) : State :=
  let after := s.nbrs.map fun e => e.bind (Entry.second s.staleAfter s.forgetAfter)
  ({ s with nbrs := after }.noticesOrLapse s.nbrs after).onPeerHold s.peerHeld

/-- A FRESH entry has reached the stale age (R118). -/
def State.staleAge (k : Nat) (s : State) : State :=
  match s.slot k with
  | some e =>
    if e.fresh ∧ s.staleAfter ≤ e.age then
      (((s.setSlot k (some e.staled)).onEntryGone e.addr).onCleared e.addr e.intent).onPeerHold s.peerHeld
    else s
  | none => s

/-- An entry has reached the forget age: it is removed (R119). -/
def State.forgetAge (k : Nat) (s : State) : State :=
  match s.slot k with
  | some e =>
    if s.forgetAfter ≤ e.age then
      (((s.setSlot k none).onEntryGone e.addr).onCleared e.addr e.intent).onPeerHold s.peerHeld
    else s
  | none => s

/-- A pending intent's lifetime has run out: it is cleared (R120). -/
def State.intentLifetimeEnd (k : Nat) (s : State) : State :=
  match s.slot k with
  | some e =>
    if e.fresh ∧ e.intent.map (·.life) = some 0 then
      (s.setSlot k (some { e with intent := none })).onCleared e.addr e.intent
    else s
  | none => s

/-- A peer's hold has run out: it is cleared (R121). The end of a hold changes no planner state (R130). -/
def State.peerHoldEnd (k : Nat) (s : State) : State :=
  match s.slot k with
  | some e =>
    if e.fresh ∧ e.hold.map (·.left) = some 0 then s.setSlot k (some { e with hold := none }) else s
  | none => s

/-! ### Planner timers (sections 8.2 to 8.9) -/

/-- The evaluation timer has expired: it is started afresh, and an evaluation is taken or dropped (R127, R128). -/
def State.evaluationExpiry (s : State) : State :=
  if s.planner.evalT = some 0 then
    if s.canEvaluate then s.startEval.evaluate else s.startEval
  else s

/-- The report timer has expired: a LOAD is offered and the timer is started again (R147). -/
def State.reportExpiry (s : State) : State :=
  if s.planner.reportT = some 0 then s.offerLoad.startReport else s

/-- The announce limit has expired in ANNOUNCING: the INTENT is removed, ANNOUNCE_EXPIRED set and the planner IDLE, or the removal
is too late and the expiry has no effect (R133). -/
def State.announceExpiry (s : State) : State :=
  if s.planner.st = .announcing ∧ s.planner.announceT = some 0 then
    if s.line.removalTooLate then s.modPlanner fun p => { p with announceT := none }
    else ((s.removeIntent).setFlag .announceExpired).plannerIdle
  else s

/-- The listen timer has expired in AWAITING: released with the precedence list empty, HELD otherwise (R138). -/
def State.listenExpiry (s : State) : State :=
  if s.planner.st = .awaiting ∧ s.planner.listenT = some 0 then
    if s.planner.prec = [] then s.releasePlanner
    else s.modPlanner fun p => { p with st := .held, listenT := none }
  else s

/-- The own lifetime has expired in HELD: the planner withdraws (R139). -/
def State.lifetimeExpiry (s : State) : State :=
  if s.planner.st = .held ∧ s.planner.lifetimeT = some 0 then s.withdraw else s

/-- The listen-only timer has expired: ACTIVE when a phase is PRESENT, BLACKOUT otherwise (R171). -/
def State.listenOnlyExpiry (s : State) : State :=
  if s.mode = .listenOnly ∧ s.station.listenOnly = some 0 then
    if s.anyPresent then s.enterActive else s.enterBlackout
  else s

/-- The transmission is complete: an own INTENT is handed to the planner, reception resumes, and the access goes to GAP or IDLE
(R106). -/
def State.transmissionComplete (s : State) : State :=
  if s.line.access = .sending then
    let t := { s with line := { s.line with tx := none } }
    let u := match s.line.tx with
      | some (.intent b) => t.announcement b.num
      | some (.load _) | some (.outcome _) | some (.hold _) | none => t
    { u with line := Line.refresh u.pins.lcd { u.line with access := .idle } }
  else s

end Sys2Proof.Machine
end

