-- ==== Sys2Proof/Machine/Timebase.lean ====
section
/-! DEFINITION. Crossings, cycle events and the seconds tick (chapter 1): the commands CROSSING, SECONDS_TICK,
CROSSING_WATCH_EXPIRY, DWELL_END and RECOVERY_RETRY_DUE. -/

namespace Sys2Proof.Machine

/-! ### Crossings and the cycle counter (R1 to R5) -/

/-- A counted crossing: the counter rises by 1, and the tick divider with it; the first one from HOLDOVER starts the divider at 0
and gives no tick; a full divider gives a tick (R2, R5). -/
def Time.counted (mains : Nat) (t : Time) : Time :=
  let u := { t with counter := t.counter + 1, changing := false }
  match t.source with
  | .holdover => { u with source := .mains, divider := 0 }
  | .mains =>
    if mains ≤ t.divider + 1 then { u with divider := 0, ticksDue := t.ticksDue + 1 } else { u with divider := t.divider + 1 }

/-- After a negative-going crossing of `p`: a count made at it is since every other phase's last crossing, and none has been made
since its own (R4). (DEDUCED, log entry 10, unsafe) -/
def Time.crossed (p : Phase) (made : Bool) (t : Time) : Time :=
  { t with countedSince := (if made then Ph3.same true else t.countedSince).set p false }

/-- A negative-going crossing of the reference phase reaches the cycle counter: the alignment crossing, an uncounted one after a
change of reference, or a counted one, whose cycle event drives the engine's running count and the access (R2, R3, R4, R58). A
transmission that this cycle event starts is started here, before the row of an engine timeout that the same event brings to 0 and
before the tick that it gives: R108 gives the outcome of each order, and this is one. (DESIGN CHOICE, log entry 37, unsafe) -/
def State.referenceCrossing (p : Phase) (s : State) : State :=
  if !s.time.aligned then s.modTime fun t => Time.crossed p false { t with aligned := true, changing := false }
  else if s.time.changing && s.time.countedSince.get p then
    s.modTime fun t => Time.crossed p false { t with changing := false }
  else (s.modTime fun t => (t.counted s.conf.mains).crossed p true).cyclesPass 1

/-- A crossing of any direction reaches the transfer engine: the command a step holds for it is sent (R65, R66, R68, R73). -/
def State.engineCrossing (p : Phase) (s : State) : State :=
  match s.engine.req with
  | some (.move m) =>
    match m.step with
    | .breakWait => if m.src = p then s.sendBreak m else s
    | .gap => if m.dst = p then (s.atStep m .making makeCycles).sendCommand (.make m.conn m.dst) else s
    | .fbWait t => if t = p then (s.atStep m (.fbMake t) makeCycles).sendCommand (.make m.conn t) else s
    | .arming | .breakSent | .breakQuery | .making | .fbMake _ | .settling => s
  | some (.recovery i (.wait t) _) =>
    if t = p then (s.setReq (some (.recovery i (.make t) makeCycles))).sendCommand (.make i t) else s
  | some (.recovery _ .query _) | some (.recovery _ (.make _) _) | some (.check _ _) | some (.inventory _ _) | none => s

/-- A crossing event: the input has its new level, the phase's mark is set and the watch of a PRESENT phase starts again, and a
negative-going one of the reference reaches the cycle counter (R1). The cycle counter and the counts it drives take the crossing
before the engine does, so a timeout started at it does not count its cycle (R58). (DESIGN CHOICE, log entry 30, unsafe) -/
def State.crossing (p : Phase) (e : Edge) (s : State) : State :=
  let t := { s with pins := { s.pins with zc := s.pins.zc.set p (e == Edge.positive) } }
  let u := t.modPhase p fun x => { x with mark := true, watch := x.present }
  let v := if e = Edge.negative then
      if u.time.ref = some p then u.referenceCrossing p else u.modTime (Time.crossed p false)
    else u
  v.engineCrossing p

/-- CROSSING (R1). While PORN is low only the input's level changes. (DESIGN CHOICE, log entry 11, unsafe) -/
def execCrossing (p : Phase) (e : Edge) (s : State) : Host.Outcome State Fault Refusal :=
  .next (if s.pins.pornLow then { s with pins := { s.pins with zc := s.pins.zc.set p (e == Edge.positive) } }
    else s.crossing p e)

/-- CROSSING_WATCH_EXPIRY: three nominal cycles without a crossing make a PRESENT phase LOST; a LOST phase cannot be lost again
(R6). -/
def execCrossingWatchExpiry (p : Phase) (s : State) : Host.Outcome State Fault Refusal :=
  .next (powered (fun t => if (t.phases.get p).watch ∧ t.present p then t.phaseLoss p else t) s)

/-! ### The seconds tick (R5) -/

/-- A running timer counts a second. -/
def tickTimer (t : Option Nat) : Option Nat := t.map (· - 1)

/-- One second in a connection record: the dwell and the retry remaining go down; a RESTING connection whose dwell the tick brings to
0, or that has had none since a rescue, goes to STEADY at the tick (R28, R30). -/
def Conn.second (c : Conn) : Conn :=
  { c with
    dwell := c.dwell - 1
    st := if c.st = .resting ∧ c.dwell ≤ 1 then .steady else c.st
    unticked := false
    member := c.member.map fun k => { k with retry := k.retry - 1 } }

/-- One second in the planner: the own hold and every running timer (R125, R130). -/
def Planner.second (p : Planner) : Planner :=
  { p with
    ownHold := p.ownHold - 1
    evalT := tickTimer p.evalT
    reportT := tickTimer p.reportT
    announceT := tickTimer p.announceT
    listenT := tickTimer p.listenT
    lifetimeT := tickTimer p.lifetimeT }

/-- One second for every timer that counts down, and for the measurement age: dwells and retries, the budget's windows, a queued
HOLD, the planner's timers and the listen-only timer (R15, R28, R30, R83, R86, R87, R97, R103, R125, R130, R171). The ends of
a dwell, of the budget's windows and throttle period, and of a queued HOLD are taken by the tick itself (R28, R83, R86, R87, R103);
the change to STALE by State.second; what else falls due is taken by the step of its own row. (DEDUCED, log entry 1, unsafe) -/
def State.countSecond (s : State) : State :=
  { s with
    conns := s.conns.map Conn.second
    budget := s.budget.second s.conf.sampling s.conf.monitoring
    line := s.line.second s.pins.lcd
    planner := s.planner.second
    station := { s.station with listenOnly := tickTimer s.station.listenOnly }
    meas := { s.meas with age := if s.meas.fresh then s.meas.age + 1 else s.meas.age } }

/-- The measurement becomes STALE: MEASUREMENT_LOST is set, an unripe OUTCOME ripens, and a move in SETTLING concludes (R15, R96,
R70). -/
def State.goStale (s : State) : State :=
  (({ s with meas := { s.meas with fresh := false } }.setFlag .measurementLost).ripen s.meas.vec).endSettling

/-- A FRESH measurement whose age has reached 3 becomes STALE (R15). -/
def State.ageEnd (s : State) : State := if s.meas.fresh ∧ 3 ≤ s.meas.age then s.goStale else s

/-- One second in the part: the timers of every block count, then the neighbour table takes the tick whole, and then a measurement that has
reached the age of 3 becomes STALE. So a notice that releases the planner, and the arbiter's look that may follow, meet the other
blocks' counts already taken and the measurement still FRESH: R5, R15, R30, R60 and R117 give no order between the blocks at one tick.
(DESIGN CHOICE, log entry 34, unsafe) -/
def State.second (s : State) : State := s.countSecond.tableSecond.ageEnd

/-- A seconds tick is given: by the divider when it has come round, whatever the source has become since; otherwise by the holdover
oscillator while it is the source (R5). So no second has two ticks. In LOADING and CONFIG_FAULT there is no timer to count
(R169). (DEDUCED, log entry 2, unsafe) -/
def State.secondsTick (s : State) : State :=
  if 0 < s.time.ticksDue then (s.modTime fun t => { t with ticksDue := t.ticksDue - 1 }).second
  else
    match s.time.source with
    | .holdover => s.second
    | .mains => s

/-- SECONDS_TICK (R5). -/
def execSecondsTick (s : State) : Host.Outcome State Fault Refusal := .next (powered State.secondsTick s)

/-- DWELL_END: a RESTING connection whose dwell has run out goes to STEADY; one that a rescue left RESTING with no dwell waits for the
next seconds tick (R28). The tick takes a dwell's end itself, so the command finds none left by it. (DEDUCED, log entry 31, safe) -/
def execDwellEnd (i : Nat) (s : State) : Host.Outcome State Fault Refusal :=
  .next (powered
    (State.modConn i fun c => { c with st := if c.st = .resting ∧ c.dwell = 0 ∧ c.unticked = false then .steady else c.st }) s)

/-- RECOVERY_RETRY_DUE: a member whose retry remaining has run out is due, and the arbiter looks at its sources (R30, R60). -/
def execRecoveryRetryDue (i : Nat) (s : State) : Host.Outcome State Fault Refusal :=
  .next (powered (fun t => if (t.conn i).member.map (·.retry) = some 0 then t.arbitrate else t) s)

end Sys2Proof.Machine
end

