-- ==== Sys2Proof/Machine/Measurement.lean ====
section
/-! DEFINITION. The measurement block, phase supervision by record, and the watch comparators (chapters 1 and 9): the commands
DATA_READY, RECORD_ABANDONED, ACCEPTED_RECORD and MEASUREMENT_STALE. -/

namespace Sys2Proof.Machine

/-! ### Readings and sums (R12 to R14) -/

/-- The largest magnitude of a held reading. -/
def maxReading : Int := 1000

/-- A held state after one reading (R12). -/
def Held.read (r : Reading) (h : Held) : Held :=
  if r.valid then
    { h with
      value := max (-maxReading) (min maxReading r.value)
      saturated := decide (maxReading < r.value) || decide (r.value < -maxReading)
      unmeasured := false
      invalid := 0 }
  else
    { h with
      invalid := min 3 (h.invalid + 1)
      unmeasured := if 3 ≤ h.invalid + 1 then true else h.unmeasured }

/-- Every configured connection's reading is taken; a reading the record lacks counts as invalid (R12, R17).
(DESIGN CHOICE, log entry 27, safe) -/
def State.takeReadings (rs : List Reading) (s : State) : State :=
  { s with
    meas := { s.meas with
      held := s.meas.held.mapIdx fun i h => if s.configured i then h.read (rs.getD i ⟨0, false⟩) else h } }

/-- Where a connection counts, and with what current (R13): on its current phase with its held reading, or while MOVING on its
from-phase with its pre-move value. -/
def State.placement (s : State) (i : Nat) : Option (Phase × Int) :=
  if s.configured i && (s.attrOf i == .movable || s.attrOf i == .fixed) then
    match (s.conn i).st with
    | .steady | .resting | .faulted => (s.conn i).cur.map fun p => (p, (s.held i).value)
    | .moving => (s.conn i).note.map fun n => (n.src, (s.held i).preMove.getD (s.held i).value)
    | .dark | .darkLocked | .unconfigured => none
  else none

/-- The sum of placed currents over the connections that satisfy a condition. -/
def State.placedSum (s : State) (f : Nat → Bool) : Vec :=
  (List.range 32).foldl
    (fun v i =>
      match s.placement i with
      | some (p, c) => if f i then v.set p (v.get p + c) else v
      | none => v)
    ⟨0, 0, 0⟩

/-- The number of connections placed on each phase (R93). -/
def State.placedCounts (s : State) : Ph3 Nat :=
  (List.range 32).foldl
    (fun v i =>
      match s.placement i with
      | some (p, _) => v.set p (v.get p + 1)
      | none => v)
    ⟨0, 0, 0⟩

/-- The local vector and the way currents are derived (R13, R14). -/
def State.deriveSums (s : State) : State :=
  { s with
    meas := { s.meas with
      vec := s.placedSum fun _ => true
      ways := (List.range 4).map fun k => s.placedSum fun i => s.wayOf i == k } }

/-- The record snapshot: the planner's progress as it stood when the handling was taken, with the vector and the counts the same
handling derives (R94). -/
def State.takeSnapshot (p : Planner) (s : State) : State :=
  { s with
    line := { s.line with
      snap := ⟨s.meas.vec, s.placedCounts, p.st == .executing, p.progress, p.last⟩ } }

/-! ### Phase supervision by record (R7, R8) -/

/-- The return threshold: the loss threshold plus 5.0 V (section 1.3). -/
def State.returnThr (s : State) : Nat := s.conf.lossThr + 50

/-- The return count of a LOST phase after a record (R8). -/
def nextReturns (good mark : Bool) (count : Nat) : Nat := if good then if mark then count + 1 else 1 else 0

/-- One phase's voltage is examined: a PRESENT phase below the loss threshold is lost; a LOST phase counts toward its return (R7,
R8). -/
def State.examine (volts : Ph3 Nat) (s : State) (p : Phase) : State :=
  let x := s.phases.get p
  if x.present then
    if volts.get p < s.conf.lossThr then s.phaseLoss p else s
  else
    let n := nextReturns (decide (s.returnThr ≤ volts.get p)) x.mark x.returns
    if 2 ≤ n then s.phaseReturn p else s.modPhase p fun y => { y with returns := n }

/-- Supervision examines the three phases in order, and then clears every crossing-seen mark (R8). -/
def State.supervise (volts : Ph3 Nat) (s : State) : State :=
  let t := Phase.all.foldl (State.examine volts) s
  { t with phases := t.phases.map fun x => { x with mark := false } }

/-! ### Comparators (R150 to R153) -/

/-- The value of a comparator source (R42). -/
def State.sourceValue (s : State) : Source → Int
  | .feederNeutral => neutral s.feederView
  | .localNeutral => neutral s.meas.vec
  | .feederPhase p => s.feederView.get p
  | .localPhase p => s.meas.vec.get p
  | .way k p => (wayVec s.meas.ways k).get p

/-- The result of a condition (R151). -/
def Cond.holds : Cond → Int → Int → Bool
  | .above, x, v => decide (v < x)
  | .below, x, v => decide (x < v)
  | .atOrAbove, x, v => decide (v ≤ x)
  | .atOrBelow, x, v => decide (x ≤ v)

/-- A comparator's action, handed to the planner in ACTIVE only (R152, R153). `taken` says that this record has given an evaluation
already: a second request is then dropped. -/
def State.takeAction (a : Action) (taken : Bool) (s : State) : State :=
  if s.isActive then
    match a with
    | .flag => s
    | .evaluate => if taken then s else s.evalOnTrigger
    | .hold => s.issueHold s.conf.holdTime .comparator
  else s

/-- Comparator `k`, of definition `d`, fires at this evaluation: it is enabled and its result turns true (R151, R152). -/
def State.fires (s : State) (k : Nat) (d : CompDef) : Bool :=
  d.enable && d.cond.holds (s.sourceValue d.source) d.value && !(s.comps.getD k false)

/-- The record gives its evaluation at comparator `k`: it fires with EVALUATE, and the evaluation is taken (R128, R153). -/
def State.evaluatesAt (s : State) (k : Nat) : Bool :=
  s.conf.comps[k]?.any fun d => s.fires k d && d.action == .evaluate && s.canEvaluate

/-- Comparator `k` is evaluated when enabled; it fires when its result turns true (R151, R152). -/
def State.compare (taken : Bool) (s : State) (k : Nat) : State :=
  match s.conf.comps[k]? with
  | none => s
  | some d =>
    if d.enable then
      let t := { s with comps := s.comps.set k (d.cond.holds (s.sourceValue d.source) d.value) }
      if s.fires k d then (t.setFlag (Flag.comparator k)).takeAction d.action taken else t
    else s

/-- Comparators `k` to 3 are evaluated, in index order, with at most one evaluation among them (R151, R153). -/
def State.compareFrom (taken : Bool) (s : State) : List Nat → State
  | [] => s
  | k :: rest => State.compareFrom (taken || s.evaluatesAt k) (s.compare taken k) rest

/-- Every enabled comparator is evaluated, in index order (R151). -/
def State.compareAll (s : State) : State := s.compareFrom false (List.range 4)

/-! ### The commands -/

/-- DATA_READY: declined with an acknowledge pulse in LOADING and CONFIG_FAULT, discarded with one when the window number repeats
the last accepted one, and otherwise read (R10, R11). Data-ready that has not fallen does not rise again.
(DESIGN CHOICE, log entry 26, safe) -/
def State.dataReady (w : Byte) (s : State) : State :=
  if s.mode.working then
    if s.meas.reading.isSome then s
    else if s.meas.lastWindow = some w then s.send .ack
    else { s with meas := { s.meas with reading := some w } }
  else s.send .ack

/-- DATA_READY (R10). -/
def execDataReady (w : Byte) (s : State) : Host.Outcome State Fault Refusal := .next (powered (State.dataReady w) s)

/-- RECORD_ABANDONED: the record being read is dropped with no effect (R10). -/
def execRecordAbandoned (s : State) : Host.Outcome State Fault Refusal :=
  .next (powered (fun t => { t with meas := { t.meas with reading := none } }) s)

/-- Steps 1 and 2 of R16 with the window number stored (R11), the snapshot taken (R94) and an unripe OUTCOME ripened (R96). -/
def State.recordTaken (w : Byte) (rs : List Reading) (s : State) : State :=
  let t := { s with meas := { s.meas with reading := none, lastWindow := some w } }
  let u := ((t.takeReadings rs).deriveSums).takeSnapshot s.planner
  u.ripen u.meas.vec

/-- Step 3 of R16: the measurement becomes FRESH with age 0 (R15). -/
def State.freshen (s : State) : State := { s with meas := { s.meas with fresh := true, age := 0 } }

/-- The handling of one accepted record, in the order of R16; its completion ends a move in SETTLING (R70). -/
def State.acceptRecord (w : Byte) (rs : List Reading) (volts : Ph3 Nat) (s : State) : State :=
  ((((s.recordTaken w rs).freshen).supervise volts).compareAll).endSettling

/-- ACCEPTED_RECORD: the record whose window number was read is fully read (R16). -/
def execAcceptedRecord (rs : List Reading) (volts : Ph3 Nat) (s : State) : Host.Outcome State Fault Refusal :=
  .next (powered
    (fun t =>
      match t.meas.reading with
      | some w => t.acceptRecord w rs volts
      | none => t) s)

/-- MEASUREMENT_STALE: the age of a FRESH measurement has reached 3 (R15). The tick that raises the age takes the change itself, and the row
finds none it has left. (DEDUCED, log entry 15, safe) -/
def execMeasurementStale (s : State) : Host.Outcome State Fault Refusal := .next (powered State.ageEnd s)

end Sys2Proof.Machine
end

