-- ==== Sys2Proof/Machine/Answers.lean ====
section
/-! DEFINITION. The answers of the transfer modules (sections 4.1, 4.4 and 4.5): the commands READY, NOT_READY, OPENED, NAK,
CLOSED and QUERY_ANSWER. -/

namespace Sys2Proof.Machine

/-- The connection a command names. -/
def ModCmd.index : ModCmd → Nat
  | .arm i => i
  | .break i => i
  | .make i _ => i
  | .query i => i

/-- The request whose outstanding command an answer from connection `i` is judged against: one of good check value naming the
outstanding command's connection (R57). Whether the answer is of a kind that command can receive follows from the step, and is
decided by each answer's own meaning. -/
def State.answered (i : Nat) (good : Bool) (s : State) : Option Req :=
  match s.engine.req with
  | some r => if good ∧ r.outstanding.map ModCmd.index = some i then some r else none
  | none => none

/-- Set a connection's current phase, as an answer reports it (R23). -/
def State.setCur (i : Nat) (x : Option Phase) : State → State := State.modConn i fun c => { c with cur := x }

/-- READY in ARMING: the from-phase begins the transfer and enters BREAKING, another path concludes SKIPPED, no path concludes
FAILED, not supplied (R64, R84). -/
def State.readyTaken (m : MoveReq) (path : Option Phase) (s : State) : State :=
  match path with
  | some r =>
    if r = m.src then (if m.rescue then s else s.budgetStart).enterBreaking m
    else s.concludeMove m (.skippedOn r) false false
  | none => s.concludeMove m .failedDark false false

/-- READY is judged against the outstanding command (R57, R64). -/
def State.ready (i : Nat) (path : Option Phase) (good : Bool) (s : State) : State :=
  match s.answered i good with
  | some (.move m) => if m.step = .arming then s.readyTaken m path else s
  | _ => s

/-- READY (R64). -/
def execReady (i : Nat) (path : Option Phase) (good : Bool) (s : State) : Host.Outcome State Fault Refusal :=
  .next (powered (State.ready i path good) s)

/-- NOT_READY in ARMING concludes the move SKIPPED (R64). -/
def State.notReady (i : Nat) (good : Bool) (s : State) : State :=
  match s.answered i good with
  | some (.move m) => if m.step = .arming then s.concludeMove m .notReady false false else s
  | _ => s

/-- NOT_READY (R64). -/
def execNotReady (i : Nat) (good : Bool) (s : State) : Host.Outcome State Fault Refusal :=
  .next (powered (State.notReady i good) s)

/-- OPENED to BREAK: the current phase becomes absent, and GAP is entered (R65). -/
def State.opened (i : Nat) (good : Bool) (s : State) : State :=
  match s.answered i good with
  | some (.move m) => if m.step = .breakSent then (s.setCur m.conn none).enterGap m else s
  | _ => s

/-- OPENED (R65). -/
def execOpened (i : Nat) (good : Bool) (s : State) : Host.Outcome State Fault Refusal :=
  .next (powered (State.opened i good) s)

/-- The QUERY that follows a BREAK answered NAK or not at all (R65). -/
def State.sendBreakQuery (m : MoveReq) (s : State) : State :=
  (s.atStep m .breakQuery queryCycles).sendCommand (.query m.conn)

/-- What a NAK to the outstanding command does, and what its absence does in the same way: to BREAK a QUERY follows, to the MAKE
of MAKING FALLBACK, to the fallback MAKE the failure of FALLBACK, to a recovery MAKE a failed attempt (R65, R67, R69, R73). -/
def State.refused (r : Req) (s : State) : State :=
  match r with
  | .move m =>
    match m.step with
    | .breakSent => s.sendBreakQuery m
    | .making => s.enterFallback m
    | .fbMake _ => s.failFallback m
    | .arming | .breakWait | .breakQuery | .gap | .fbWait _ | .settling => s
  | .recovery i (.make _) _ => s.attemptFailed i
  | .recovery _ .query _ | .recovery _ (.wait _) _ | .check _ _ | .inventory _ _ => s

/-- NAK is judged against the outstanding command (R57). -/
def State.nak (i : Nat) (good : Bool) (s : State) : State :=
  match s.answered i good with
  | some r => s.refused r
  | none => s

/-- NAK (R67). -/
def execNak (i : Nat) (good : Bool) (s : State) : Host.Outcome State Fault Refusal :=
  .next (powered (State.nak i good) s)

/-- CLOSED to a MAKE, naming phase `x` (R67, R69, R73). -/
def State.closedTaken (r : Req) (x : Phase) (s : State) : State :=
  match r with
  | .move m =>
    match m.step with
    | .making =>
      if x = m.dst then (s.setCur m.conn (some x)).enterSettling m
      else s.concludeMove m (.failedOn x) false false
    | .fbMake _ => s.concludeMove m (.failedOn x) false false
    | .arming | .breakWait | .breakSent | .breakQuery | .gap | .fbWait _ | .settling => s
  | .recovery i (.make t) _ => s.recoveredOn i x (x == t)
  | .recovery _ .query _ | .recovery _ (.wait _) _ | .check _ _ | .inventory _ _ => s

/-- CLOSED is judged against the outstanding command (R57). -/
def State.closed (i : Nat) (x : Phase) (good : Bool) (s : State) : State :=
  match s.answered i good with
  | some r => s.closedTaken r x
  | none => s

/-- CLOSED (R67). -/
def execClosed (i : Nat) (x : Phase) (good : Bool) (s : State) : Host.Outcome State Fault Refusal :=
  .next (powered (State.closed i x good) s)

/-- The answer to a QUERY, by the class of its request (R65, R73, R75). -/
def State.queryTaken (r : Req) (path : Option Phase) (s : State) : State :=
  match r with
  | .move m =>
    match m.step with
    | .breakQuery =>
      match path with
      | some x => s.concludeMove m (.failedOn x) false false
      | none => (s.setCur m.conn none).enterFallback m
    | .arming | .breakWait | .breakSent | .gap | .making | .fbWait _ | .fbMake _ | .settling => s
  | .recovery i .query _ =>
    match path with
    | some x => s.recoveredOn i x (s.allows i x)
    | none => s.recoverDark i
  | .check i _ => s.releaseChecked i (some path)
  | .inventory i _ => s.inventoryAnswer i (some path)
  | .recovery _ (.wait _) _ | .recovery _ (.make _) _ => s

/-- A QUERY answer is judged against the outstanding command (R57). -/
def State.queryAnswer (i : Nat) (path : Option Phase) (good : Bool) (s : State) : State :=
  match s.answered i good with
  | some r => s.queryTaken r path
  | none => s

/-- QUERY_ANSWER (R73). -/
def execQueryAnswer (i : Nat) (path : Option Phase) (good : Bool) (s : State) : Host.Outcome State Fault Refusal :=
  .next (powered (State.queryAnswer i path good) s)

end Sys2Proof.Machine
end

