-- ==== Sys2Proof/Machine/Timeouts.lean ====
section
/-! DEFINITION. The timeouts and limits that run out (sections 4.1, 4.4, 4.5 and chapter 5): the commands ARM_TIMEOUT,
BREAK_TIMEOUT, CLOSED_TIMEOUT, QUERY_TIMEOUT, GAP_LIMIT, FALLBACK_WAIT_LIMIT, RECOVERY_WAIT_LIMIT, SAMPLING_WINDOW_END,
MONITORING_WINDOW_END and THROTTLE_EXPIRY. Each acts only on a count that has run out. -/

namespace Sys2Proof.Machine

/-- What is left of the running timeout or wait of a request. -/
def Req.left : Req → Nat
  | .move m => m.cycles
  | .recovery _ _ n => n
  | .check _ n => n
  | .inventory _ n => n

/-- The request in flight at the end of its running timeout or wait, and the state at that end (R58). -/
def State.expired (s : State) : Option (Req × State) :=
  match s.engine.req with
  | some r => (s.atCountEnd r.left).map fun t => (r.count r.left, t)
  | none => none

/-- ARM unanswered: FAILED, supplied on the from-phase, MODULE_SILENT set (R64). -/
def State.armTimeout (s : State) : State :=
  match s.expired with
  | some (.move m, t) => if m.step = .arming then t.concludeMove m (.failedOn m.src) true false else s
  | _ => s

/-- ARM_TIMEOUT (R64). -/
def execArmTimeout (s : State) : Host.Outcome State Fault Refusal := .next (powered State.armTimeout s)

/-- BREAK unanswered: a QUERY follows (R65). -/
def State.breakTimeout (s : State) : State :=
  match s.expired with
  | some (.move m, t) => if m.step = .breakSent then t.sendBreakQuery m else s
  | _ => s

/-- BREAK_TIMEOUT (R65). -/
def execBreakTimeout (s : State) : Host.Outcome State Fault Refusal := .next (powered State.breakTimeout s)

/-- Whether the command outstanding for a request is a MAKE. -/
def Req.awaitsClosed (r : Req) : Bool :=
  match r.outstanding with
  | some (.make _ _) => true
  | some (.arm _) | some (.break _) | some (.query _) | none => false

/-- A MAKE unanswered is as a MAKE answered NAK (R67, R69, R73). -/
def State.closedTimeout (s : State) : State :=
  match s.expired with
  | some (r, t) => if r.awaitsClosed then t.refused r else s
  | none => s

/-- CLOSED_TIMEOUT (R67). -/
def execClosedTimeout (s : State) : Host.Outcome State Fault Refusal := .next (powered State.closedTimeout s)

/-- A QUERY unanswered, by the class of its request; MODULE_SILENT is set in every class (R65, R73, R75, R33, R34). -/
def State.queryTimeout (s : State) : State :=
  match s.expired with
  | some (.move m, t) => if m.step = .breakQuery then t.concludeMove m .failedDark true false else s
  | some (.recovery i .query _, t) => (t.setFlag .moduleSilent).attemptFailed i
  | some (.check i _, t) => t.releaseChecked i none
  | some (.inventory i _, t) => t.inventoryAnswer i none
  | some (.recovery _ (.wait _) _, _) | some (.recovery _ (.make _) _, _) | none => s

/-- QUERY_TIMEOUT (R57). -/
def execQueryTimeout (s : State) : Host.Outcome State Fault Refusal := .next (powered State.queryTimeout s)

/-- No crossing of the target within the limit of GAP: FALLBACK (R66). -/
def State.gapLimit (s : State) : State :=
  match s.expired with
  | some (.move m, t) => if m.step = .gap then t.enterFallback m else s
  | _ => s

/-- GAP_LIMIT (R66). -/
def execGapLimit (s : State) : Host.Outcome State Fault Refusal := .next (powered State.gapLimit s)

/-- No crossing of the fallback target within the limit: FALLBACK fails (R68). -/
def State.fallbackWaitLimit (s : State) : State :=
  match s.expired with
  | some (.move m, t) =>
    match m.step with
    | .fbWait _ => t.failFallback m
    | .arming | .breakWait | .breakSent | .breakQuery | .gap | .making | .fbMake _ | .settling => s
  | _ => s

/-- FALLBACK_WAIT_LIMIT (R68). -/
def execFallbackWaitLimit (s : State) : Host.Outcome State Fault Refusal := .next (powered State.fallbackWaitLimit s)

/-- No crossing of the recovery target within the limit: the attempt failed (R73). -/
def State.recoveryWaitLimit (s : State) : State :=
  match s.expired with
  | some (.recovery i (.wait _) _, t) => t.attemptFailed i
  | _ => s

/-- RECOVERY_WAIT_LIMIT (R73). -/
def execRecoveryWaitLimit (s : State) : Host.Outcome State Fault Refusal := .next (powered State.recoveryWaitLimit s)

/-- SAMPLING_WINDOW_END (R83). -/
def execSamplingWindowEnd (s : State) : Host.Outcome State Fault Refusal := .next (powered State.samplingEnd s)

/-- MONITORING_WINDOW_END (R86). -/
def execMonitoringWindowEnd (s : State) : Host.Outcome State Fault Refusal := .next (powered State.monitoringEnd s)

/-- THROTTLE_EXPIRY (R87). -/
def execThrottleExpiry (s : State) : Host.Outcome State Fault Refusal := .next (powered State.throttleEnd s)

end Sys2Proof.Machine
end

