-- ==== Sys2Proof/Machine/LineEvents.lean ====
section
/-! DEFINITION. The events of the line and of the neighbour table (chapters 6 and 7): the commands LCD_ACTIVE, LCD_INACTIVE, the
five frame rows, STALE_AGE, FORGET_AGE, INTENT_LIFETIME_END, PEER_HOLD_END, QUIET_GAP, DEFERRAL_END, TRANSMISSION_COMPLETE
and HOLD_REMAINING_END. -/

namespace Sys2Proof.Machine

/-- The level of carrier-detect alone, while the part is held by PORN. -/
def State.setLcd (b : Bool) (s : State) : State := { s with pins := { s.pins with lcd := b } }

/-- LCD_ACTIVE (R98, R104, R105). -/
def execLcdActive (s : State) : Host.Outcome State Fault Refusal :=
  .next (if s.pins.pornLow then s.setLcd true else s.lcdRise)

/-- LCD_INACTIVE (R104, R98). -/
def execLcdInactive (s : State) : Host.Outcome State Fault Refusal :=
  .next (if s.pins.pornLow then s.setLcd false else s.lcdFall)

/-- LOAD_FRAME: the frame assembled ends with its carrier; its bytes decide what it is (R99, R113). -/
def execLoadFrame (bytes : List Byte) (s : State) : Host.Outcome State Fault Refusal :=
  .next (powered (State.receiveFrame bytes) s)

/-- INTENT_FRAME: the frame assembled ends with its carrier; its bytes decide what it is (R99, R114). -/
def execIntentFrame (bytes : List Byte) (s : State) : Host.Outcome State Fault Refusal :=
  .next (powered (State.receiveFrame bytes) s)

/-- OUTCOME_FRAME: the frame assembled ends with its carrier; its bytes decide what it is (R99, R115). -/
def execOutcomeFrame (bytes : List Byte) (s : State) : Host.Outcome State Fault Refusal :=
  .next (powered (State.receiveFrame bytes) s)

/-- HOLD_FRAME: the frame assembled ends with its carrier; its bytes decide what it is (R99, R116). -/
def execHoldFrame (bytes : List Byte) (s : State) : Host.Outcome State Fault Refusal :=
  .next (powered (State.receiveFrame bytes) s)

/-- DISCARDED_FRAME: the frame assembled ends with its carrier; bytes that fail a step of validation leave no trace (R99). -/
def execDiscardedFrame (bytes : List Byte) (s : State) : Host.Outcome State Fault Refusal :=
  .next (powered (State.receiveFrame bytes) s)

/-- STALE_AGE (R118). -/
def execStaleAge (slot : Nat) (s : State) : Host.Outcome State Fault Refusal := .next (powered (State.staleAge slot) s)

/-- FORGET_AGE (R119). -/
def execForgetAge (slot : Nat) (s : State) : Host.Outcome State Fault Refusal := .next (powered (State.forgetAge slot) s)

/-- INTENT_LIFETIME_END (R120). -/
def execIntentLifetimeEnd (slot : Nat) (s : State) : Host.Outcome State Fault Refusal :=
  .next (powered (State.intentLifetimeEnd slot) s)

/-- PEER_HOLD_END (R121). -/
def execPeerHoldEnd (slot : Nat) (s : State) : Host.Outcome State Fault Refusal :=
  .next (powered (State.peerHoldEnd slot) s)

/-- The row of a quiet gap's completion. The cycle that completes a gap takes the completion itself; while no cycle events come the row
says that the nominal cycles left have passed, and counts them (R104, R58).
(DEDUCED, log entry 16, safe; DESIGN CHOICE, log entry 3, unsafe) -/
def State.quietGap (s : State) : State :=
  match s.line.access with
  | .gap (some k) | .frozen _ (some k) =>
    if gapCycles ≤ k then s.gapComplete else if s.noCycles then s.cyclesPass (gapCycles - k) else s
  | .idle | .gap none | .frozen _ none | .defer _ | .sending => s

/-- The row of a deferral's end. The cycle that brings the count to 0 starts the transmission itself; while no cycle events come the row
says that the nominal cycles left have passed, and counts them (R105, R58).
(DEDUCED, log entry 16, safe; DESIGN CHOICE, log entry 3, unsafe) -/
def State.deferralEnd (s : State) : State :=
  match s.line.access with
  | .defer n => if n = 0 then s.startTransmission else if s.noCycles then s.cyclesPass n else s
  | .idle | .gap _ | .frozen _ _ | .sending => s

/-- QUIET_GAP (R104). -/
def execQuietGap (s : State) : Host.Outcome State Fault Refusal := .next (powered State.quietGap s)

/-- DEFERRAL_END (R105). -/
def execDeferralEnd (s : State) : Host.Outcome State Fault Refusal := .next (powered State.deferralEnd s)

/-- TRANSMISSION_COMPLETE (R106). -/
def execTransmissionComplete (s : State) : Host.Outcome State Fault Refusal :=
  .next (powered State.transmissionComplete s)

/-- The row of a queued HOLD's end: one whose remaining time is 0 leaves the queue unsent (R97). The tick that brings it to 0 removes it
itself, and the row finds none it has left (R103). (DEDUCED, log entry 15, safe) -/
def State.holdRemainingEnd (s : State) : State :=
  if s.line.qHold.map (·.dur) = some 0 then s.modQueue fun l => { l with qHold := none } else s

/-- HOLD_REMAINING_END (R97). -/
def execHoldRemainingEnd (s : State) : Host.Outcome State Fault Refusal := .next (powered State.holdRemainingEnd s)

end Sys2Proof.Machine
end

