-- ==== Sys2Proof/Machine/PlannerEvents.lean ====
section
/-! DEFINITION. The timers of the planner and of the station mode machine (chapters 8 and 10): the commands
EVALUATION_TIMER_EXPIRY, REPORT_TIMER_EXPIRY, ANNOUNCE_LIMIT_EXPIRY, LISTEN_TIMER_EXPIRY, OWN_LIFETIME_EXPIRY, OWN_HOLD_END
and LISTEN_ONLY_TIMER_EXPIRY. -/

namespace Sys2Proof.Machine

/-- EVALUATION_TIMER_EXPIRY (R128). -/
def execEvaluationTimerExpiry (s : State) : Host.Outcome State Fault Refusal := .next (powered State.evaluationExpiry s)

/-- REPORT_TIMER_EXPIRY (R147). -/
def execReportTimerExpiry (s : State) : Host.Outcome State Fault Refusal := .next (powered State.reportExpiry s)

/-- ANNOUNCE_LIMIT_EXPIRY (R133). -/
def execAnnounceLimitExpiry (s : State) : Host.Outcome State Fault Refusal := .next (powered State.announceExpiry s)

/-- LISTEN_TIMER_EXPIRY (R138). -/
def execListenTimerExpiry (s : State) : Host.Outcome State Fault Refusal := .next (powered State.listenExpiry s)

/-- OWN_LIFETIME_EXPIRY (R139). -/
def execOwnLifetimeExpiry (s : State) : Host.Outcome State Fault Refusal := .next (powered State.lifetimeExpiry s)

/-- OWN_HOLD_END: the own hold has run down to 0 on the seconds tick, and the station is held no longer unless a peer holds it;
the end of a hold changes no planner state (R130). (DEDUCED, log entry 25, safe) -/
def execOwnHoldEnd (s : State) : Host.Outcome State Fault Refusal := .next (powered (fun t => t) s)

/-- LISTEN_ONLY_TIMER_EXPIRY (R171). -/
def execListenOnlyTimerExpiry (s : State) : Host.Outcome State Fault Refusal :=
  .next (powered State.listenOnlyExpiry s)

end Sys2Proof.Machine
end

