-- ==== Sys2Proof/Machine/Reset.lean ====
section
/-! DEFINITION. Power-on reset, the reading of the configuration image, and the RESETN pin (chapter 10): the commands
POWER_ON_RESET, PORN_RISE, READ_ATTEMPT_SUCCESS, READ_ATTEMPT_FAILURE, BUS_HELD_LOW_TIMEOUT, READ_RETRY_WAIT_EXPIRY,
RESETN_FALL and RESETN_RISE. -/

namespace Sys2Proof.Machine

/-! ### Power-on reset (R164) -/

/-- Every block at its power-on values, PORN low. What stays is what is not the part's: the levels of its other pins, the draws
taken, what it has sent, and the commands waiting. -/
def State.powerOn (s : State) : State :=
  { State.reset with
    pins := { s.pins with pornLow := true }
    draws := s.draws
    out := s.out
    pending := s.pending }

/-- POWER_ON_RESET (R164). -/
def execPowerOnReset (s : State) : Host.Outcome State Fault Refusal := .next s.powerOn

/-- Where the loader stands. -/
def State.setLoader (l : Loader) (failures : Nat) : State → State :=
  State.modStation fun x => { x with loader := l, failures := failures }

/-- A read attempt from location 0 begins (R165). -/
def State.beginRead (s : State) : State := (s.setLoader .reading s.station.failures).send .imageRead

/-- PORN rises: every block starts from its power-on values, and LOADING begins with its first read attempt (R164, R165).
(DESIGN CHOICE, log entry 4, safe) -/
def State.pornRise (s : State) : State :=
  if s.pins.pornLow then { s.powerOn with pins := { s.pins with pornLow := false } }.beginRead else s

/-- PORN_RISE (R164). -/
def execPornRise (s : State) : Host.Outcome State Fault Refusal := .next s.pornRise

/-! ### Loading (R165 to R169) -/

/-- A read attempt is under way. -/
def State.loaderReading (s : State) : Bool := s.mode == .loading && s.station.loader == .reading

/-- CONFIG_FAULT is entered (R165, R166, R169). -/
def State.enterConfigFault (s : State) : State := (s.setLoader .idle 0).enterMode .configFault none

/-- LOADING ends with the image taken into every block, CONFIG_CLAMPED set when a field was replaced, and INVENTORY entered (R163,
R167, R168). -/
def State.endLoading (c : Clamped Cfg) (s : State) : State :=
  (({ s with cfg := some c.val }.setLoader .idle 0).setFlagIf c.changed .configClamped).beginInventory

/-- A read attempt has succeeded: the image is checked, and then clamped and loaded, or CONFIG_FAULT entered (R166). -/
def State.imageReadIn (image : List Byte) (s : State) : State :=
  if s.loaderReading then
    if imageOk image then s.endLoading (clampImage image) else s.enterConfigFault
  else s

/-- READ_ATTEMPT_SUCCESS (R166). -/
def execReadAttemptSuccess (image : List Byte) (s : State) : Host.Outcome State Fault Refusal :=
  .next (powered (State.imageReadIn image) s)

/-- The failed attempts that take the station to CONFIG_FAULT (R165). -/
def maxFailures : Nat := 4

/-- A read attempt has failed: a retry waits, or after the fourth failure CONFIG_FAULT is entered (R165). -/
def State.attemptReadFailed (s : State) : State :=
  if s.loaderReading then
    if s.station.failures + 1 < maxFailures then s.setLoader .waiting (s.station.failures + 1) else s.enterConfigFault
  else s

/-- READ_ATTEMPT_FAILURE: the memory gave no acknowledge (R165). -/
def execReadAttemptFailure (s : State) : Host.Outcome State Fault Refusal := .next (powered State.attemptReadFailed s)

/-- BUS_HELD_LOW_TIMEOUT: the bus stayed held low for more than 25 ms, which fails the attempt (R165). -/
def execBusHeldLowTimeout (s : State) : Host.Outcome State Fault Refusal := .next (powered State.attemptReadFailed s)

/-- The wait after a failed attempt is over, and a new attempt begins (R165). -/
def State.readRetry (s : State) : State :=
  if s.mode == .loading && s.station.loader == .waiting then s.beginRead else s

/-- READ_RETRY_WAIT_EXPIRY (R165). -/
def execReadRetryWaitExpiry (s : State) : Host.Outcome State Fault Refusal := .next (powered State.readRetry s)

/-! ### The RESETN pin (R175) -/

/-- The level of RESETN. -/
def State.setResetn (low : Bool) (s : State) : State := { s with pins := { s.pins with resetnLow := low } }

/-- RESETN falls: a restart in every mode but LOADING and CONFIG_FAULT, and none while PORN is low (R175, R164, R169). -/
def State.resetnFall (s : State) : State :=
  if s.pins.resetnLow then s
  else if s.mode.working && !s.pins.pornLow then (s.setResetn true).restartEvent else s.setResetn true

/-- RESETN_FALL (R175). -/
def execResetnFall (s : State) : Host.Outcome State Fault Refusal := .next s.resetnFall

/-- RESETN rises: a station waiting in INVENTORY begins its inventory from index 0 (R175). -/
def State.resetnRise (s : State) : State :=
  if s.pins.resetnLow then
    if s.mode == .inventory && !s.pins.pornLow then (s.setResetn false).beginInventory else s.setResetn false
  else s

/-- RESETN_RISE (R175). -/
def execResetnRise (s : State) : Host.Outcome State Fault Refusal := .next s.resetnRise

end Sys2Proof.Machine
end

