-- ==== Sys2Proof/Machine/Service.lean ====
section
/-! DEFINITION. The service link (chapter 11): the eleven requests, an unknown kind, and the events of its receive state. -/

namespace Sys2Proof.Machine

/-! ### Answers (section 12.4) -/

/-- What a request is answered: OK with its data, or one of the three other codes. -/
inductive Answer where
  | ok (data : List Byte)
  | badRequest
  | locked
  | notApplicable
deriving DecidableEq, Repr

/-- The answer code. -/
def Answer.code : Answer → Byte
  | .ok _ => 0
  | .badRequest => 1
  | .locked => 2
  | .notApplicable => 3

/-- The data that follow the answer code. -/
def Answer.data : Answer → List Byte
  | .ok d => d
  | .badRequest | .locked | .notApplicable => []

/-- A request decided: its answer, and the state it leaves before the response is formed. One answered anything but OK changes no
state (R179). -/
abbrev Decision := Answer × State

/-- Change the service link. -/
def State.modSvc (f : Svc → Svc) (s : State) : State := { s with svc := f s.svc }

/-! ### Responding (R177, R178) -/

/-- A frame begun while a response goes out is not taken: the overrun indicator is set, and the frame dropped whole (R178). -/
def State.setOverrun : State → State := State.modSvc fun v => { v with overrun := true }

/-- The receive state. -/
def State.setRx (r : Rx) : State → State := State.modSvc fun v => { v with rx := r }

/-- The response goes out, and the receive state is RESPONDING (R177). -/
def State.respond (kind : Byte) (d : Decision) : State :=
  (d.2.setRx .responding).send (.response (responseBytes kind d.1.code d.1.data))

/-- Step 1 of R179: in LOADING and CONFIG_FAULT a request is answered LOCKED. -/
def unlocked (decision : State → Decision) (s : State) : Decision :=
  if s.mode.working then decision s else (.locked, s)

/-! ### STATUS (R180) -/

/-- The code of a station mode. -/
def Mode.code : Mode → Byte
  | .loading => 0
  | .configFault => 1
  | .inventory => 2
  | .listenOnly => 3
  | .active => 4
  | .blackout => 5

/-- The code of a planner state. -/
def PlState.code : PlState → Byte
  | .idle => 0
  | .announcing => 1
  | .awaiting => 2
  | .held => 3
  | .executing => 4

/-- Three bytes of a number, most significant first. -/
def bytes3 (n : Nat) : List Byte :=
  let w := BitVec.ofNat 24 n
  [w.extractLsb' 16 8, w.extractLsb' 8 8, w.extractLsb' 0 8]

/-- Four bytes of a word, most significant first. -/
def bytes4 (w : BitVec 32) : List Byte :=
  [w.extractLsb' 24 8, w.extractLsb' 16 8, w.extractLsb' 8 8, w.extractLsb' 0 8]

/-- The indicators byte of STATUS. -/
def State.indicators (s : State) : Byte :=
  bitAt s.isHeld 0 ||| bitAt s.station.overridesOpen 1 ||| bitAt s.svc.overrun 2

/-- The class summary byte of STATUS (R161). -/
def State.classSummary (s : State) : Byte := bitAt s.anyFault 0 ||| bitAt s.anyNotice 1 ||| bitAt s.anyCompletion 2

/-- The STATUS data. -/
def State.statusData (s : State) : List Byte :=
  [s.mode.code, s.planner.st.code, bitAt s.budget.throttled 0, phaseCode? s.time.ref, phaseSetByte s.presentSet,
    bitAt s.meas.fresh 0]
  ++ bytes4 s.time.counter ++ bytes3 (neutral s.feederView) ++ bytes3 (neutral s.projectedView)
  ++ [s.indicators, s.classSummary]

/-- STATUS is decided: OK in every mode (R180). -/
def decideStatus (payload : List Byte) (s : State) : Decision :=
  if payload = [] then (.ok s.statusData, s) else (.badRequest, s)

/-! ### READ CONNECTION and READ NEIGHBOUR (R181) -/

/-- The code of a connection state. -/
def ConnState.code : ConnState → Byte
  | .unconfigured => 0
  | .steady => 1
  | .moving => 2
  | .resting => 3
  | .faulted => 4
  | .dark => 5
  | .darkLocked => 6

/-- The code of a recovery set membership. -/
def memberCode : Option Member → Byte
  | none => 0
  | some k => match k.kind with
    | .recover => 1
    | .check => 2

/-- The READ CONNECTION data of an index. -/
def State.connectionData (s : State) (i : Nat) : List Byte :=
  if s.configured i then
    let c := s.conn i
    let h := s.held i
    [natByte i, c.st.code,
      attrCode (s.attrOf i) ||| bitAt (s.overrideOf i).isSome 2 ||| bitAt c.releasePending 3,
      phaseSetByte (s.connCfg i).allowed, phaseCode (s.homeOf i), natByte (s.wayOf i), phaseCode? c.cur]
    ++ natBytes c.dwell
    ++ [natByte c.attempts, memberCode c.member, natByte ((c.member.map (·.retry)).getD 0)]
    ++ intBytes h.value
    ++ [bitAt h.saturated 0 ||| bitAt h.unmeasured 1]
  else natByte i :: List.replicate 14 0

/-- READ CONNECTION is decided (R181, R189). -/
def decideReadConnection (payload : List Byte) : State → Decision :=
  unlocked fun s =>
    match payload with
    | [i] => if i.toNat < 32 then (.ok (s.connectionData i.toNat), s) else (.badRequest, s)
    | _ => (.badRequest, s)

/-- The bit for vector, counts and flags: set when all three are present, clear when none is; the one bit is left open for an entry
with a vector alone. -/
def Entry.shown (e : Entry) : Bool := e.vec.isSome && (e.info.isSome || Config.partialShown)

/-- The vector, counts and flags of an entry, as shown or written 0. -/
def Entry.reportData (e : Entry) : List Byte :=
  if e.shown then
    vecBytes (e.vec.getD ⟨0, 0, 0⟩) ++
      match e.info with
      | some x => [natByte x.counts.a, natByte x.counts.b, natByte x.counts.c,
          bitAt x.stale 0 ||| bitAt x.throttled 1 ||| bitAt x.executing 2]
      | none => [0, 0, 0, 0]
  else List.replicate 10 0

/-- The pending intent of an entry, as shown or written 0. -/
def intentData : Option PIntent → List Byte
  | none => List.replicate 12 0
  | some i =>
    [i.num, natByte i.life, natByte i.moves.length] ++
      ((i.moves.take 3).flatMap moveBytes ++ List.replicate (9 - 3 * i.moves.length) 0)

/-- The hold of an entry, as shown or written 0. -/
def holdData : Option PHold → List Byte
  | none => [0, 0, 0]
  | some h => natBytes h.left ++ [reasonCode h.reason]

/-- The READ NEIGHBOUR data of a slot. -/
def State.neighbourData (s : State) (k : Nat) : List Byte :=
  match s.slot k with
  | none => natByte k :: List.replicate 32 0
  | some e =>
    [natByte k, if e.fresh then 1 else 2, natByte e.addr,
      bitAt e.shown 0 ||| bitAt e.last.isSome 1 ||| bitAt e.intent.isSome 2 ||| bitAt e.hold.isSome 3]
    ++ natBytes e.age ++ e.reportData ++ [e.last.getD 0, natByte e.concluded] ++ intentData e.intent ++ holdData e.hold

/-- READ NEIGHBOUR is decided (R181, R189). -/
def decideReadNeighbour (payload : List Byte) : State → Decision :=
  unlocked fun s =>
    match payload with
    | [k] => if k.toNat < 16 then (.ok (s.neighbourData k.toNat), s) else (.badRequest, s)
    | _ => (.badRequest, s)

/-! ### Event requests (R182) -/

/-- The READ EVENTS data: bit n of a 24-bit value is the flag with code n. -/
def State.eventsData (s : State) : List Byte := bytes3 s.flags.toNat

/-- READ EVENTS is decided: in AUTO mode the flags it reports as set are cleared, in MANUAL mode none (R182, R156, R157). -/
def decideReadEvents (payload : List Byte) : State → Decision :=
  unlocked fun s =>
    if payload = [] then (.ok s.eventsData, if s.conf.manual then s else s.clearFlags s.flags) else (.badRequest, s)

/-- CLEAR EVENTS is decided: the named flags and the overrun indicator are cleared; a code that names no flag clears nothing
(R182). -/
def decideClearEvents (payload : List Byte) : State → Decision :=
  unlocked fun s =>
    if payload.all fun b => decide (b.toNat < 19) then
      (.ok [], (s.clearFlags (flagMask (payload.map (·.toNat)))).modSvc fun v => { v with overrun := false })
    else (.badRequest, s)

/-! ### Requests that act (R183 to R185) -/

/-- What a RELEASE does to a configured connection outside INVENTORY: a FAULTED one gets a release check, a DARK_LOCKED one its
attempts back (R34, R35). -/
def State.release (i : Nat) (s : State) : Decision :=
  match (s.conn i).st with
  | .faulted =>
    if (s.conn i).releasePending then (.ok [], s)
    else (.ok [], (s.modConn i fun c => Conn.joinSet .check 0 { c with releasePending := true }).arbitrate)
  | .darkLocked =>
    (.ok [], (s.modConn i fun c => Conn.joinSet .recover 0 { c with st := .dark, attempts := 0 }).arbitrate)
  | .steady | .moving | .resting | .dark | .unconfigured => (.notApplicable, s)

/-- RELEASE is decided (R183, R34, R35). -/
def decideRelease (payload : List Byte) : State → Decision :=
  unlocked fun s =>
    match payload with
    | [i] =>
      if i.toNat < 32 then
        if s.mode == .inventory || !s.configured i.toNat then (.notApplicable, s) else s.release i.toNat
      else (.badRequest, s)
    | _ => (.badRequest, s)

/-- Write one entry of the override table (R20). -/
def State.setOverride (i : Nat) (a : Attr) : State → State :=
  State.modStation fun x => { x with overrides := x.overrides.set i (some a) }

/-- OVERRIDE is decided (R36). -/
def decideOverride (payload : List Byte) : State → Decision :=
  unlocked fun s =>
    match payload with
    | [i, a] =>
      match codeAttr a with
      | some attr =>
        if i.toNat < 32 then
          if s.station.overridesOpen then
            if s.configured i.toNat && (s.conn i.toNat).st != .moving then (.ok [], s.setOverride i.toNat attr)
            else (.notApplicable, s)
          else (.locked, s)
        else (.badRequest, s)
      | none => (.badRequest, s)
    | _ => (.badRequest, s)

/-- LOCK is decided: the overrides close (R183, R174). -/
def decideLock (payload : List Byte) : State → Decision :=
  unlocked fun s =>
    if payload = [] then (.ok [], s.modStation fun x => { x with overridesOpen := false }) else (.badRequest, s)

/-- HOLD is decided: in ACTIVE an own hold with reason SERVICE (R184). -/
def decideHold (payload : List Byte) : State → Decision :=
  unlocked fun s =>
    match payload with
    | [hi, lo] =>
      let d := (bytesWord hi lo).toNat
      if 10 ≤ d ∧ d ≤ 600 then
        if s.isActive then (.ok [], s.issueHold d .service) else (.notApplicable, s)
      else (.badRequest, s)
    | _ => (.badRequest, s)

/-- RESTART is decided: it waits for its response to leave (R185). -/
def decideRestart (payload : List Byte) : State → Decision :=
  unlocked fun s =>
    if payload = [] then (.ok [], s.modSvc fun v => { v with restartPending := true }) else (.badRequest, s)

/-- The silicon revision letter: one capital letter, fixed in the part and not stated (R186). -/
def revisionLetter : Byte := BitVec.ofNat 8 (65 + Config.revision % 26)

/-- The IDENT data; format version and address are absent before the end of LOADING and in CONFIG_FAULT (R186, R163). -/
def State.identData (s : State) : List Byte :=
  [0x48, 0x12, revisionLetter] ++
    match s.cfg with
    | some c => [natByte c.version, natByte c.address]
    | none => [0, 0]

/-- IDENT is decided: OK in every mode (R186). -/
def decideIdent (payload : List Byte) (s : State) : Decision :=
  if payload = [] then (.ok s.identData, s) else (.badRequest, s)

/-! ### Requests by their kind -/

/-- A kind that names no request (R179, R189). -/
def decideUnknown (_payload : List Byte) : State → Decision := unlocked fun s => (.badRequest, s)

/-- How a request of a kind byte is decided (section 12.4). -/
def decideKind (kind : Byte) : List Byte → State → Decision :=
  match kind.toNat with
  | 1 => decideStatus
  | 2 => decideReadConnection
  | 3 => decideReadNeighbour
  | 4 => decideReadEvents
  | 5 => decideClearEvents
  | 6 => decideRelease
  | 7 => decideOverride
  | 8 => decideLock
  | 9 => decideHold
  | 10 => decideRestart
  | 11 => decideIdent
  | _ => decideUnknown

/-! ### Receiving (R177, R178, R189) -/

/-- What bytes after a start byte have come to: no start byte is left among them, a frame is still arriving, or a request is complete
and these bytes follow it. -/
inductive Gathered where
  | nothing
  | arriving
  | request (kind : Byte) (payload rest : List Byte)
deriving DecidableEq, Repr

/-- The bytes after the next start byte; those before it are ignored (R177, R189). -/
def nextStart (bytes : List Byte) : Option (List Byte) :=
  match bytes.dropWhile (· != 0x7E) with
  | _ :: rest => some rest
  | [] => none

/-- The bytes left when the frame begun by a start byte has ended: after its length byte when that exceeds 19, and otherwise after as
many bytes as it counts off. Nothing while the frame is arriving (R177, R178, R189). -/
def afterFrameBytes : List Byte → Option (List Byte)
  | [] => none
  | len :: rest =>
    if 19 < len.toNat then some rest else if rest.length < len.toNat + 3 then none else some (rest.drop (len.toNat + 3))

/-- The bytes after a start byte are gathered: a malformed frame is forgotten, and the next start byte begins another (R177, R189). `n`
bounds the frames looked at. -/
def gatherFrom : Nat → List Byte → Gathered
  | 0, _ => .nothing
  | n + 1, bytes =>
    match afterFrameBytes bytes with
    | none => .arriving
    | some rest =>
      match serviceFrame? (bytes.take (bytes.length - rest.length)) with
      | some (kind, payload) => .request kind payload rest
      | none =>
        match nextStart rest with
        | some more => gatherFrom n more
        | none => .nothing

/-- The bytes after a start byte are gathered. Each frame takes at least one of them. -/
def gathered (bytes : List Byte) : Gathered := gatherFrom (bytes.length + 1) bytes

/-- The last frame begun by a start byte, of those these bytes begin in RESPONDING, is still arriving (R178). -/
def droppedFrom : Nat → List Byte → Bool
  | 0, _ => false
  | n + 1, bytes =>
    match afterFrameBytes bytes with
    | none => true
    | some rest =>
      match nextStart rest with
      | some more => droppedFrom n more
      | none => false

/-- Bytes after a start byte in RESPONDING: the frame is dropped, and the overrun indicator set (R178). -/
def State.dropFrame (bytes : List Byte) : State → State :=
  State.modSvc fun v => { v with overrun := true, dropping := v.dropping || droppedFrom (bytes.length + 1) bytes }

/-- Bytes that follow the last check byte of a request come while its response goes out (R178). -/
def State.dropRest (bytes : List Byte) (s : State) : State :=
  match nextStart bytes with
  | some more => s.dropFrame more
  | none => s

/-- The bytes after a start byte arrive: in IDLE or RECEIVING they are gathered, and a request among them is decided and answered at
its last check byte; in RESPONDING they are dropped; in DISCARDING they belong to the frame being dropped (R177, R178, R189).
(DESIGN CHOICE, log entry 18, safe; DEDUCED, log entry 19, safe) -/
def State.takeFrameBytes (bytes : List Byte) (s : State) : State :=
  match s.svc.rx with
  | .idle | .receiving =>
    match gathered bytes with
    | .nothing => s.setRx .idle
    | .arriving => s.setRx .receiving
    | .request kind payload rest => (State.respond kind (decideKind kind payload s)).dropRest rest
  | .responding => s.dropFrame bytes
  | .discarding => s

/-- The bytes after the start byte of a frame with this kind and payload, and a good check value (section 12.4). The length byte of a
payload too long for one is 255. -/
def requestBytes (kind : Byte) (payload : List Byte) : List Byte :=
  let l := natByte (min 255 payload.length) :: kind :: payload
  l ++ wordBytes (crc16 l)

/-- A complete frame arrives: a request is decided and answered at its last check byte, and one begun while a response goes out is
dropped (R177, R178). One whose payload is too long is malformed at its length byte, and its bytes are looked at for a start byte
(R189). (DESIGN CHOICE, log entry 18, safe; DEDUCED, log entry 19, safe) -/
def State.takeRequest (kind : Byte) (payload : List Byte) (decision : List Byte → State → Decision) (s : State) : State :=
  if 19 < payload.length then s.takeFrameBytes (requestBytes kind payload)
  else
    match s.svc.rx with
    | .idle | .receiving => State.respond kind (decision payload s)
    | .responding => s.setOverrun
    | .discarding => s

/-- STATUS (R180). -/
def execStatus (payload : List Byte) (s : State) : Host.Outcome State Fault Refusal :=
  .next (powered (State.takeRequest 1 payload decideStatus) s)

/-- READ_CONNECTION (R181). -/
def execReadConnection (payload : List Byte) (s : State) : Host.Outcome State Fault Refusal :=
  .next (powered (State.takeRequest 2 payload decideReadConnection) s)

/-- READ_NEIGHBOUR (R181). -/
def execReadNeighbour (payload : List Byte) (s : State) : Host.Outcome State Fault Refusal :=
  .next (powered (State.takeRequest 3 payload decideReadNeighbour) s)

/-- READ_EVENTS (R182). -/
def execReadEvents (payload : List Byte) (s : State) : Host.Outcome State Fault Refusal :=
  .next (powered (State.takeRequest 4 payload decideReadEvents) s)

/-- CLEAR_EVENTS (R182). -/
def execClearEvents (payload : List Byte) (s : State) : Host.Outcome State Fault Refusal :=
  .next (powered (State.takeRequest 5 payload decideClearEvents) s)

/-- RELEASE (R183). -/
def execRelease (payload : List Byte) (s : State) : Host.Outcome State Fault Refusal :=
  .next (powered (State.takeRequest 6 payload decideRelease) s)

/-- OVERRIDE (R36). -/
def execOverride (payload : List Byte) (s : State) : Host.Outcome State Fault Refusal :=
  .next (powered (State.takeRequest 7 payload decideOverride) s)

/-- LOCK (R183). -/
def execLock (payload : List Byte) (s : State) : Host.Outcome State Fault Refusal :=
  .next (powered (State.takeRequest 8 payload decideLock) s)

/-- HOLD (R184). -/
def execHold (payload : List Byte) (s : State) : Host.Outcome State Fault Refusal :=
  .next (powered (State.takeRequest 9 payload decideHold) s)

/-- RESTART (R185). -/
def execRestart (payload : List Byte) (s : State) : Host.Outcome State Fault Refusal :=
  .next (powered (State.takeRequest 10 payload decideRestart) s)

/-- IDENT (R186). -/
def execIdent (payload : List Byte) (s : State) : Host.Outcome State Fault Refusal :=
  .next (powered (State.takeRequest 11 payload decideIdent) s)

/-- UNKNOWN_REQUEST_KIND: a request whose kind byte names none is answered BAD_REQUEST; the byte decides (R179). -/
def execUnknownRequestKind (kind : Byte) (payload : List Byte) (s : State) : Host.Outcome State Fault Refusal :=
  .next (powered (State.takeRequest kind payload (decideKind kind)) s)

/-- MALFORMED_FRAME: a frame, given by the bytes after its start byte, that is dropped without an answer; the bytes decide (R177). -/
def execMalformedFrame (bytes : List Byte) (s : State) : Host.Outcome State Fault Refusal :=
  .next (powered (State.takeFrameBytes bytes) s)

/-! ### The receive state's own events (R177, R178) -/

/-- The frame being dropped has ended: DISCARDING returns to IDLE, RESPONDING stays (R178). -/
def State.droppedFrameEnd (s : State) : State :=
  match s.svc.rx with
  | .responding => s.modSvc fun v => { v with dropping := false }
  | .discarding => s.modSvc fun v => { v with rx := .idle, dropping := false }
  | .idle | .receiving => s

/-- DROPPED_FRAME_END (R178). -/
def execDroppedFrameEnd (s : State) : Host.Outcome State Fault Refusal := .next (powered State.droppedFrameEnd s)

/-- More than 50 ms have passed between two bytes: a frame being gathered is abandoned, and a dropped frame ends (R177, R178). -/
def State.byteGap (s : State) : State :=
  match s.svc.rx with
  | .receiving => s.setRx .idle
  | .responding | .discarding => s.droppedFrameEnd
  | .idle => s

/-- SERVICE_BYTE_GAP (R177). -/
def execServiceByteGap (s : State) : Host.Outcome State Fault Refusal := .next (powered State.byteGap s)

/-- A start byte: in IDLE it begins a frame (R177), in RESPONDING one that is dropped, with the overrun indicator set (R178); inside a
frame it is one of the bytes counted off. (DESIGN CHOICE, log entry 18, safe) -/
def State.startByte (s : State) : State :=
  match s.svc.rx with
  | .idle => s.setRx .receiving
  | .responding => s.modSvc fun v => { v with overrun := true, dropping := true }
  | .receiving | .discarding => s

/-- OVERRUN (R178). -/
def execOverrun (s : State) : Host.Outcome State Fault Refusal := .next (powered State.startByte s)

/-- The last byte of the response has left: a pending RESTART takes effect; otherwise the receive state is IDLE, or DISCARDING
while a dropped frame is still arriving (R177, R178, R185). (DEDUCED, log entry 19, safe) -/
def State.responseEnd (s : State) : State :=
  match s.svc.rx with
  | .responding =>
    if s.svc.restartPending && s.mode.working then s.restartEvent
    else s.setRx (if s.svc.dropping then .discarding else .idle)
  | .idle | .receiving | .discarding => s

/-- RESPONSE_END (R177). -/
def execResponseEnd (s : State) : Host.Outcome State Fault Refusal := .next (powered State.responseEnd s)

end Sys2Proof.Machine
end

