-- ==== Sys2Proof/Machine/Dispatch.lean ====
section
/-! DEFINITION. The meaning of every command: one arm for each row of the table, in the table's order. -/

namespace Sys2Proof.Machine

/-- The effect of a command on everything but the queue. -/
def exec (i : Instr) (s : State) : Host.Outcome State Fault Refusal :=
  match i with
  | .powerOnReset => Sys2Proof.Machine.execPowerOnReset s
  | .pornRise => Sys2Proof.Machine.execPornRise s
  | .readAttemptSuccess image => Sys2Proof.Machine.execReadAttemptSuccess image s
  | .readAttemptFailure => Sys2Proof.Machine.execReadAttemptFailure s
  | .busHeldLowTimeout => Sys2Proof.Machine.execBusHeldLowTimeout s
  | .readRetryWaitExpiry => Sys2Proof.Machine.execReadRetryWaitExpiry s
  | .resetnFall => Sys2Proof.Machine.execResetnFall s
  | .resetnRise => Sys2Proof.Machine.execResetnRise s
  | .crossing p e => Sys2Proof.Machine.execCrossing p e s
  | .secondsTick => Sys2Proof.Machine.execSecondsTick s
  | .crossingWatchExpiry p => Sys2Proof.Machine.execCrossingWatchExpiry p s
  | .dataReady window => Sys2Proof.Machine.execDataReady window s
  | .recordAbandoned => Sys2Proof.Machine.execRecordAbandoned s
  | .acceptedRecord readings volts => Sys2Proof.Machine.execAcceptedRecord readings volts s
  | .measurementStale => Sys2Proof.Machine.execMeasurementStale s
  | .dwellEnd conn => Sys2Proof.Machine.execDwellEnd conn s
  | .recoveryRetryDue conn => Sys2Proof.Machine.execRecoveryRetryDue conn s
  | .ready conn path good => Sys2Proof.Machine.execReady conn path good s
  | .notReady conn good => Sys2Proof.Machine.execNotReady conn good s
  | .opened conn good => Sys2Proof.Machine.execOpened conn good s
  | .nak conn good => Sys2Proof.Machine.execNak conn good s
  | .closed conn p good => Sys2Proof.Machine.execClosed conn p good s
  | .queryAnswer conn path good => Sys2Proof.Machine.execQueryAnswer conn path good s
  | .armTimeout => Sys2Proof.Machine.execArmTimeout s
  | .breakTimeout => Sys2Proof.Machine.execBreakTimeout s
  | .closedTimeout => Sys2Proof.Machine.execClosedTimeout s
  | .queryTimeout => Sys2Proof.Machine.execQueryTimeout s
  | .gapLimit => Sys2Proof.Machine.execGapLimit s
  | .fallbackWaitLimit => Sys2Proof.Machine.execFallbackWaitLimit s
  | .recoveryWaitLimit => Sys2Proof.Machine.execRecoveryWaitLimit s
  | .samplingWindowEnd => Sys2Proof.Machine.execSamplingWindowEnd s
  | .monitoringWindowEnd => Sys2Proof.Machine.execMonitoringWindowEnd s
  | .throttleExpiry => Sys2Proof.Machine.execThrottleExpiry s
  | .lcdActive => Sys2Proof.Machine.execLcdActive s
  | .loadFrame bytes => Sys2Proof.Machine.execLoadFrame bytes s
  | .intentFrame bytes => Sys2Proof.Machine.execIntentFrame bytes s
  | .outcomeFrame bytes => Sys2Proof.Machine.execOutcomeFrame bytes s
  | .holdFrame bytes => Sys2Proof.Machine.execHoldFrame bytes s
  | .discardedFrame bytes => Sys2Proof.Machine.execDiscardedFrame bytes s
  | .staleAge slot => Sys2Proof.Machine.execStaleAge slot s
  | .forgetAge slot => Sys2Proof.Machine.execForgetAge slot s
  | .intentLifetimeEnd slot => Sys2Proof.Machine.execIntentLifetimeEnd slot s
  | .peerHoldEnd slot => Sys2Proof.Machine.execPeerHoldEnd slot s
  | .quietGap => Sys2Proof.Machine.execQuietGap s
  | .deferralEnd => Sys2Proof.Machine.execDeferralEnd s
  | .transmissionComplete => Sys2Proof.Machine.execTransmissionComplete s
  | .holdRemainingEnd => Sys2Proof.Machine.execHoldRemainingEnd s
  | .evaluationTimerExpiry => Sys2Proof.Machine.execEvaluationTimerExpiry s
  | .reportTimerExpiry => Sys2Proof.Machine.execReportTimerExpiry s
  | .announceLimitExpiry => Sys2Proof.Machine.execAnnounceLimitExpiry s
  | .listenTimerExpiry => Sys2Proof.Machine.execListenTimerExpiry s
  | .ownLifetimeExpiry => Sys2Proof.Machine.execOwnLifetimeExpiry s
  | .ownHoldEnd => Sys2Proof.Machine.execOwnHoldEnd s
  | .listenOnlyTimerExpiry => Sys2Proof.Machine.execListenOnlyTimerExpiry s
  | .status payload => Sys2Proof.Machine.execStatus payload s
  | .readConnection payload => Sys2Proof.Machine.execReadConnection payload s
  | .readNeighbour payload => Sys2Proof.Machine.execReadNeighbour payload s
  | .readEvents payload => Sys2Proof.Machine.execReadEvents payload s
  | .clearEvents payload => Sys2Proof.Machine.execClearEvents payload s
  | .release payload => Sys2Proof.Machine.execRelease payload s
  | .override payload => Sys2Proof.Machine.execOverride payload s
  | .lock payload => Sys2Proof.Machine.execLock payload s
  | .hold payload => Sys2Proof.Machine.execHold payload s
  | .restart payload => Sys2Proof.Machine.execRestart payload s
  | .ident payload => Sys2Proof.Machine.execIdent payload s
  | .malformedFrame bytes => Sys2Proof.Machine.execMalformedFrame bytes s
  | .serviceByteGap => Sys2Proof.Machine.execServiceByteGap s
  | .overrun => Sys2Proof.Machine.execOverrun s
  | .responseEnd => Sys2Proof.Machine.execResponseEnd s
  | .lcdInactive => Sys2Proof.Machine.execLcdInactive s
  | .unknownRequestKind kind payload => Sys2Proof.Machine.execUnknownRequestKind kind payload s
  | .droppedFrameEnd => Sys2Proof.Machine.execDroppedFrameEnd s

end Sys2Proof.Machine
end

