-- ==== Sys2Proof/Machine/Step.lean ====
section
/-! DEFINITION. One step of the block: the command at the front of the queue, or one idle step. -/

namespace Sys2Proof.Machine

/-- With no command waiting nothing happens at the ports; while no cycle events come, one nominal holdover cycle is counted (R58).
While PORN is low nothing happens at all (R164). (DESIGN CHOICE, log entry 3, unsafe) -/
def State.idle (s : State) : State := powered (fun t => if t.noCycles then t.cyclesPass 1 else t) s

/-- The machine's step: the command at the front of the queue takes its effect on the state with the queue's rest. -/
def step (s : State) : Host.Outcome State Fault Refusal :=
  match s.pending with
  | [] => .next s.idle
  | c :: rest => exec c { s with pending := rest }

/-- Put the command a word spells at the front of the queue; the table spells none, so nothing is put there. -/
def State.withFetchWord (s : State) (nbits w : Nat) : State :=
  match decodeTableWord nbits w with
  | some c => { s with pending := c :: s.pending }
  | none => s

end Sys2Proof.Machine
end

