-- ==== Sys2Proof/Safety.lean ====
section
/-! DEFINITION. What counts as a sound state of the station: the properties that hold after reset and that every step keeps,
in the terms the statements use. -/

namespace Sys2Proof.Machine

/-! ### Outside ACTIVE the station is quiet (R101, R107, R146, R77, R78) -/

/-- Nothing is queued, nothing is in transmission, and the access is IDLE. -/
def Line.quiet (l : Line) : Bool :=
  l.qHold.isNone && l.qOutcome.isNone && l.qIntent.isNone && l.qLoad.isNone && l.access == .idle && l.tx.isNone

/-- The planner is IDLE with nothing kept and every timer but the own hold stopped. -/
def Planner.atRest (p : Planner) : Bool :=
  p.st == .idle && p.plan.isNone && p.noted == [] && p.prec == [] && p.evalT.isNone && p.reportT.isNone
    && p.announceT.isNone && p.listenT.isNone && p.lifetimeT.isNone

/-- In every mode but ACTIVE the line is quiet, the planner at rest, and the rescue list empty with its mark clear. -/
def State.CalmOutsideActive (s : State) : Prop :=
  s.mode ≠ .active →
    s.line.quiet = true ∧ s.planner.atRest = true ∧ s.engine.rescue = [] ∧ s.engine.rescueDone = false

/-! ### Configuration (R163, R164, R167, R169) -/

/-- A loaded configuration after its clamps, as far as the other rules rest on it: 1 to 32 connections, each with a home phase in
its allowed set, and way boundaries that do not decrease and end at the count (R17, R19, R21). -/
def Cfg.Clamped (c : Cfg) : Prop :=
  1 ≤ c.count ∧ c.count ≤ 32 ∧ c.conns.length = c.count ∧ (∀ x ∈ c.conns, x.allowed.get x.home = true)
    ∧ ∃ b0 b1 b2, c.bounds = [b0, b1, b2, c.count] ∧ b0 ≤ b1 ∧ b1 ≤ b2 ∧ b2 ≤ c.count

/-- A configuration is held in every mode but LOADING and CONFIG_FAULT, and in neither of those. -/
def State.ConfigHeld (s : State) : Prop :=
  s.cfg.isSome = s.mode.working ∧ ∀ c, s.cfg = some c → c.Clamped

/-! ### Records and the request in flight (R17, R23, R24, R29, R59, R60, R71) -/

/-- A connection is supplied on an allowed phase. -/
def onAllowed (allowed : Phase → Bool) (cur : Option Phase) : Bool := cur.any allowed

/-- A record is what its state allows: membership, release pending, note, current phase and attempts (R17, R24, R29, R31, R34). -/
def Conn.sound (configured : Bool) (allowed : Phase → Bool) (c : Conn) : Bool :=
  match c.st with
  | .unconfigured => !configured && c == Conn.unconfigured
  | .steady | .resting =>
    configured && onAllowed allowed c.cur && c.member.isNone && !c.releasePending && c.note.isNone && decide (c.attempts ≤ 3)
  | .moving => configured && c.member.isNone && !c.releasePending && c.note.isSome && decide (c.attempts ≤ 3)
  | .faulted =>
    configured && c.note.isNone && decide (c.attempts ≤ 3)
      && match c.member with
        | none => !c.releasePending
        | some k => c.releasePending && k.kind == .check && decide (k.retry ≤ 10)
  | .dark =>
    configured && c.cur.isNone && c.note.isNone && !c.releasePending && decide (c.attempts ≤ 2)
      && c.member.any fun k => k.kind == .recover && decide (k.retry ≤ 10)
  | .darkLocked =>
    configured && c.cur.isNone && c.note.isNone && !c.releasePending && decide (c.attempts = 3) && c.member.isNone

/-- A record as inventory starts it, not yet asked (R32). -/
def Conn.unasked (c : Conn) : Bool := c.st == .faulted && c.member.isNone && !c.releasePending && c.note.isNone

/-- The current phase of a connection in a move, by the step of the move: the from-phase until its path opens, none while no path
is closed, the target in SETTLING (R23). -/
def MoveReq.curOk (m : MoveReq) (cur : Option Phase) : Bool :=
  match m.step with
  | .arming | .breakWait | .breakSent | .breakQuery => cur == some m.src
  | .gap | .making | .fbWait _ | .fbMake _ => cur.isNone
  | .settling => cur == some m.dst

/-- The fallback target of a move is allowed. -/
def MoveReq.targetOk (m : MoveReq) (allowed : Phase → Bool) : Bool :=
  match m.step with
  | .fbWait t | .fbMake t => allowed t
  | .arming | .breakWait | .breakSent | .breakQuery | .gap | .making | .settling => true

/-- The target of a recovery is allowed. -/
def RecStep.targetOk (r : RecStep) (allowed : Phase → Bool) : Bool :=
  match r with
  | .query => true
  | .wait t | .make t => allowed t

/-- The request in flight is of a class its mode serves, and its connection is as its step leaves it (R24, R59, R60, R71, R73,
R75). -/
def State.reqSound (s : State) : Option Req → Bool
  | none => true
  | some (.move m) =>
    s.mode == .active && s.configured m.conn && (s.conn m.conn).st == .moving
      && (s.conn m.conn).note == some ⟨m.rescue, m.src, m.dst⟩ && m.src != m.dst && s.allows m.conn m.src
      && s.allows m.conn m.dst && m.curOk (s.conn m.conn).cur && m.targetOk (s.allows m.conn)
  | some (.recovery i r _) =>
    (s.mode == .active || s.mode == .listenOnly) && s.configured i && (s.conn i).st == .dark && r.targetOk (s.allows i)
  | some (.check i _) =>
    (s.mode == .active || s.mode == .listenOnly) && s.configured i && (s.conn i).st == .faulted && (s.conn i).releasePending
  | some (.inventory i _) => s.mode == .inventory && s.configured i && i == s.engine.invNext

/-- The records and the request in flight are sound together. -/
def State.Sound (s : State) : Prop :=
  s.ConfigHeld ∧ s.conns.length = 32
    ∧ (∀ i, (s.conn i).sound (s.configured i) (s.allows i) = true)
    ∧ (∀ i, (s.conn i).st = .moving → ∃ m, s.engine.req = some (.move m) ∧ m.conn = i)
    ∧ s.reqSound s.engine.req = true
    ∧ (s.mode = .inventory → ∀ i, s.engine.invNext ≤ i → s.configured i = true → (s.conn i).unasked = true)

/-! ### The neighbour table (R109, R121) -/

/-- The address of a slot's entry. -/
def State.addrAt (s : State) (k : Nat) : Option Nat := (s.slot k).map (·.addr)

/-- An entry as a whole tick leaves it: FRESH below the stale age, STALE with nothing a STALE entry has lost, younger than the forget
age, and no pending intent or hold that has run out (R109, R118 to R121). -/
def State.entrySound (s : State) (e : Entry) : Prop :=
  e.age < s.forgetAfter
    ∧ (e.fresh = true → e.age < s.staleAfter)
    ∧ (e.fresh = false → e.vec = none ∧ e.info = none ∧ e.intent = none ∧ e.hold = none)
    ∧ (∀ i, e.intent = some i → 1 ≤ i.life ∧ i.life ≤ 60)
    ∧ ∀ h, e.hold = some h → 1 ≤ h.left ∧ h.left ≤ 600

/-- Sixteen slots, no two entries with one address, none with the station's own, none before a configuration is held, each entry sound,
and a report interval that is not 0. -/
def State.TableSound (s : State) : Prop :=
  s.nbrs.length = 16
    ∧ (∀ j k a, s.addrAt j = some a → s.addrAt k = some a → j = k)
    ∧ (∀ k a, s.addrAt k = some a → s.mode.working = true ∧ a ≠ s.conf.address)
    ∧ (∀ k e, s.slot k = some e → s.entrySound e)
    ∧ 1 ≤ s.conf.report

/-! ### Phases and the timebase (R2 to R8) -/

/-- The reference is the first PRESENT phase, the mains source needs a reference, the watch of a phase is timed exactly while it is
PRESENT, and a return count stays below 2. -/
def State.PhasesSound (s : State) : Prop :=
  s.time.ref = s.chosenRef
    ∧ (s.time.source = .mains → s.time.ref ≠ none ∧ s.time.aligned = true)
    ∧ (s.time.aligned = false → s.time.counter = 0)
    ∧ ∀ p, (s.phases.get p).watch = s.present p ∧ (s.phases.get p).returns < 2

/-! ### The monitoring maximum (R84 to R88) -/

/-- While THROTTLED the starts counted in the monitoring window stay at or below the maximum, with room for a balancing move whose
READY is awaited; and the budget is OPEN wherever no configuration is held. -/
def State.MonitoringHeld (s : State) : Prop :=
  (s.mode.working = false → s.budget.throttled = false)
    ∧ (s.budget.throttled = true →
        s.budget.monCount ≤ s.conf.monMax
        ∧ ∀ m : MoveReq, s.engine.req = some (.move m) → m.rescue = false → m.step = .arming →
            s.budget.monCount + 1 ≤ s.conf.monMax)

/-! ### One cycle, value by value (R58, R104, R105) -/

/-- One cycle: the engine's running count goes down by 1; the second cycle of a quiet gap completes it, with a deferral drawn from the
range of the head's kind in GAP and the kept count resumed in FROZEN; a deferral count goes down by 1; and a draw of 0, like the cycle
that brings the count to 0, starts the transmission of the head frame. -/
def State.cycled (s : State) : State :=
  let t : State := { s with engine := { s.engine with req := s.engine.req.map (Req.count 1) } }
  let goes (a : Access) : State := { t with line := { s.line with access := a } }
  match s.line.access with
  | .gap (some 0) => goes (.gap (some 1))
  | .gap (some (_ + 1)) =>
    match s.line.head with
    | some h =>
      let d := s.drawValue (match h with
        | .hold | .outcome => 3
        | .intent => 7
        | .load => 15)
      if d = 0 then State.startTransmission { t with draws := s.draws + 1 } else { goes (.defer d) with draws := s.draws + 1 }
    | none => goes .idle
  | .frozen n (some 0) => goes (.frozen n (some 1))
  | .frozen n (some (_ + 1)) => goes (.defer n)
  | .defer n => if n ≤ 1 then t.startTransmission else goes (.defer (n - 1))
  | .idle | .gap none | .frozen _ none | .sending => t

/-- `n` cycles, one after the other. -/
def State.cycledTimes : Nat → State → State
  | 0, s => s
  | n + 1, s => State.cycledTimes n s.cycled

/-! ### No end untaken (R15, R28, R83, R86, R87, R103 to R105) -/

/-- A gap short of its second cycle, and a deferral count above 0. -/
def Access.running : Access → Prop
  | .gap (some k) => k < 2
  | .defer n => 1 ≤ n
  | .frozen n none => 1 ≤ n
  | .frozen n (some k) => 1 ≤ n ∧ k < 2
  | .idle | .gap none | .sending => True

/-- Nothing that a tick or a cycle has brought to its end is left standing at it: every window, throttle period and queued HOLD has time
left, every gap and deferral cycles, and a RESTING connection dwell, but for one a rescue has just left so; a FRESH measurement is
younger than 3; and the configured times they start from are not 0. -/
def State.EndsTaken (s : State) : Prop :=
  s.line.access.running
    ∧ (∀ h, s.line.qHold = some h → 1 ≤ h.dur)
    ∧ (s.budget.running = true → 1 ≤ s.budget.sampLeft)
    ∧ (s.budget.throttled = true → 1 ≤ s.budget.throttleLeft ∧ 1 ≤ s.budget.monLeft)
    ∧ (∀ c ∈ s.conns, c.st = .resting → c.dwell = 0 → c.unticked = true)
    ∧ (s.meas.fresh = true → s.meas.age < 3)
    ∧ 1 ≤ s.conf.sampling ∧ 1 ≤ s.conf.monitoring ∧ 1 ≤ s.conf.holdTime ∧ 1 ≤ s.conf.dwell

/-! ### Quiet surroundings: what the statements about one move or one request presume of the rest -/

/-- No connection but `i` is a due member of the recovery set. -/
def State.noOtherDue (s : State) (i : Nat) : Bool :=
  (List.range 32).all fun j => j == i || (s.conn j).member.all fun k => decide (0 < k.retry)

/-- No member of the recovery set but `i` is due, no rescue is listed or marked done, and the planner is IDLE: once the request
of `i` is over and `i` is not due, the arbiter finds nothing to take. -/
def State.nothingElse (s : State) (i : Nat) : Bool :=
  s.noOtherDue i && s.engine.rescue.isEmpty && !s.engine.rescueDone && s.planner.st == .idle

/-- The access is the one the queue and the carrier give it (R104, R105). -/
def State.accessSettled (s : State) : Bool := s.line.refresh s.pins.lcd == s.line

/-- A request holds a command for the next crossing of a phase (R65, R66, R68, R73). -/
def Req.waitsFor (p : Phase) : Req → Bool
  | .move m =>
    match m.step with
    | .breakWait => m.src == p
    | .gap => m.dst == p
    | .fbWait t => t == p
    | .arming | .breakSent | .breakQuery | .making | .fbMake _ | .settling => false
  | .recovery _ (.wait t) _ => t == p
  | .recovery _ .query _ | .recovery _ (.make _) _ | .check _ _ | .inventory _ _ => false

/-- The commands that take a move into FALLBACK: the end of GAP, NAK or silence after MAKE, OPENED with the target LOST, and a QUERY
after BREAK that finds no path closed (R65 to R67). -/
def MoveReq.fallsBackAt (m : MoveReq) (present : Phase → Bool) (c : Instr) : Prop :=
  (c = .gapLimit ∧ m.step = .gap ∧ m.cycles = 0)
    ∨ (c = .nak m.conn true ∧ m.step = .making)
    ∨ (c = .closedTimeout ∧ m.step = .making ∧ m.cycles = 0)
    ∨ (c = .opened m.conn true ∧ m.step = .breakSent ∧ present m.dst = false)
    ∨ (c = .queryAnswer m.conn none true ∧ m.step = .breakQuery)

/-- The first phase that will do as the fallback target of a move that does not go back to its from-phase (R45, R68). -/
def State.otherTarget (s : State) (m : MoveReq) : Option Phase :=
  Phase.all.find? fun x =>
    s.allows m.conn x && s.present x && x != m.dst
      && decide (((wayVec s.meas.ways (s.wayOf m.conn)).get x + m.cur).natAbs ≤ s.rating (s.wayOf m.conn))

/-- A request is a move in SETTLING. -/
def Req.settles : Req → Bool
  | .move m => m.step == .settling
  | .recovery _ _ _ | .check _ _ | .inventory _ _ => false

/-- A frame is being received: its carrier is still there, or has just ended, and the part is not transmitting (R98). -/
def State.frameArriving (s : State) : Bool :=
  s.mode.working && s.line.access != .sending
    && ((s.pins.lcd && s.line.assembly == .underWay) || (!s.pins.lcd && s.line.assembly == .ended))

/-- A frame the rules allow a station to send (R92 to R97, R99, R188). -/
def Frame.legal : Frame → Bool
  | .load b => vecOk b.vec && decide (b.counts.a ≤ 32) && decide (b.counts.b ≤ 32) && decide (b.counts.c ≤ 32)
      && decide (b.concluded ≤ 3)
  | .intent b => decide (1 ≤ b.moves.length) && decide (b.moves.length ≤ 3) && decide (5 ≤ b.life) && decide (b.life ≤ 60)
      && b.moves.all fun m => within 1000 m.cur
  | .outcome b => decide (1 ≤ b.results.length) && decide (b.results.length ≤ 3) && vecOk b.vec
      && (b.completed || b.results.all (· == .skipped))
  | .hold b => decide (1 ≤ b.dur) && decide (b.dur ≤ 600)

/-- The line after a frame has ended: the carrier over, a quiet gap begun where one was awaited, and no assembly (R98, R104). -/
def State.afterFrame (s : State) : State :=
  { s with
    pins := { s.pins with lcd := false }
    line := { s.line with
      access := if s.pins.lcd then s.line.access.carrierGone else s.line.access
      assembly := .none } }

/-! ### Restart and inventory, value by value (R32, R175) -/

/-- Every configured record FAULTED with no current phase, the recovery set empty (R32). -/
def inventoryRecords (count : Nat) (conns : List Conn) : List Conn :=
  conns.mapIdx fun i c => if i < count then ⟨.faulted, none, 0, 0, false, none, none, false⟩ else c

/-- The state a restart leaves, before the first inventory query (R175): phases, configuration, overrides, intent number, input
levels, and a record being read are kept; everything else takes its restart value. -/
def State.afterRestart (s : State) : State :=
  { s with
    station := { s.station with mode := .inventory, listenOnly := none }
    time := ⟨0, false, s.time.ref, false, ⟨false, false, false⟩, .holdover, 0, 0⟩
    meas := ⟨List.replicate 32 ⟨0, false, true, 3, none⟩, none, s.meas.reading, ⟨0, 0, 0⟩, List.replicate 4 ⟨0, 0, 0⟩, false, 0⟩
    conns := inventoryRecords s.conf.count s.conns
    engine := ⟨none, [], false, 0⟩
    budget := ⟨false, false, 0, 0, 0, 0, 0⟩
    line := ⟨none, none, none, none, .idle, none, .none, ⟨⟨0, 0, 0⟩, ⟨0, 0, 0⟩, false, 0, none⟩⟩
    nbrs := List.replicate 16 none
    planner := ⟨.idle, s.planner.intentNo, none, [], [], none, 0, none, none, none, none, none⟩
    comps := List.replicate 4 false
    flags := 0
    svc := ⟨.idle, false, false, false⟩ }

/-- The first inventory query has been sent (R75). -/
def State.firstQuery (s : State) : State :=
  { s with
    engine := { s.engine with req := some (.inventory 0 5), invNext := 0 }
    out := .command (.query 0) :: s.out }

/-- INVENTORY as it begins with RESETN high: its first query is sent when a connection is configured (R75, R175). -/
def State.inventoryBegun (s : State) : State :=
  if 0 < s.conf.count then s.firstQuery else { s with engine := { s.engine with req := none, invNext := 0 } }

/-- The planner as every return to IDLE leaves it, with the evaluation timer started afresh by one draw (R127). -/
def State.plannerRests (s : State) (last : Option Byte) : State :=
  { s with
    planner := { s.planner with
      st := .idle, plan := none, noted := [], prec := [], announceT := none, listenT := none, lifetimeT := none
      last := last
      evalT := some (s.conf.evalInt + s.drawValue (s.conf.evalInt / 4)) }
    draws := s.draws + 1 }

/-- An evaluation taken: the evaluation timer is started afresh by one draw, and a plan that results is announced under the next
number (R126, R127, R129). -/
def State.evaluated (s : State) : State :=
  let t : State :=
    { s with
      planner := { s.planner with evalT := some (s.conf.evalInt + s.drawValue (s.conf.evalInt / 4)) }
      draws := s.draws + 1 }
  if s.buildPlan = [] then t
  else
    { t with
      planner :=
        { t.planner with
          st := .announcing
          intentNo := s.planner.intentNo + 1
          plan := some ⟨s.buildPlan, s.buildPlan.length, List.replicate s.buildPlan.length none, 0⟩
          announceT := some s.conf.announce }
      line := Line.refresh s.pins.lcd
        { s.line with
          qIntent := some
            ⟨s.planner.intentNo + 1, s.conf.lifetime, s.buildPlan.map fun m => ⟨m.src, m.dst, m.cur⟩⟩ } }

/-- A plan withdrawn: an OUTCOME WITHDRAWN with every move SKIPPED is queued, ripe with the local vector, and the planner rests with its
intent number as last concluded (R96, R137). -/
def State.withdrawn (s : State) (p : Plan) : State :=
  { s.plannerRests (some s.planner.intentNo) with
    line := Line.refresh s.pins.lcd
      { s.line with
        qOutcome := some ⟨s.planner.intentNo, false, List.replicate p.moves.length .skipped, some s.meas.vec⟩ } }

/-- A plan cut by a recheck to the moves it keeps, the others SKIPPED (R50, R136). -/
def State.cutTo (s : State) (p : Plan) : State :=
  let kept := s.recheckCount (p.moves.take p.kept)
  { s with
    planner :=
      { s.planner with
        plan := some
          { p with kept := kept, results := p.results.mapIdx fun j r => if kept ≤ j then some .skipped else r } } }

/-- A planner with the plan `p` released: the listen timer stopped, a recheck taken; with no move kept it withdraws, and with moves
kept it enters EXECUTING, cut to them, its lifetime timer stopped, and the arbiter looks at its sources (R60, R136, R138). -/
def State.released (s : State) (p : Plan) : State :=
  let t : State := { s with planner := { s.planner with listenT := none } }
  if t.recheckCount (p.moves.take p.kept) = 0 then t.withdrawn p
  else State.arbitrate { t.cutTo p with planner := { (t.cutTo p).planner with st := .executing, lifetimeT := none } }

/-- The rescue is over when its list is empty with the rescue-done mark set and no rescue move in flight: RESCUE_CONCLUDED is set, a LOAD
offered, which ACTIVE alone takes, and the mark cleared (R78, R101). -/
def State.rescueOver (s : State) : State :=
  if s.engine.rescue = [] ∧ s.engine.rescueDone = true ∧ s.engine.rescueInFlight = false then
    { s with
      flags := s.flags ||| BitVec.twoPow 19 18
      engine := { s.engine with rescueDone := false }
      line := if s.mode = .active then Line.refresh s.pins.lcd { s.line with qLoad := some s.loadBody } else s.line }
  else s

/-! ### A record's values (R11 to R16, R94, R96) -/

/-- The line with an unripe OUTCOME given its vector (R96). -/
def Line.ripened (v : Vec) (l : Line) : Line :=
  { l with qOutcome := l.qOutcome.map fun o => { o with vec := some (o.vec.getD v) } }

/-- A FRESH measurement of age 3 gone STALE: MEASUREMENT_LOST is set, an unripe OUTCOME takes the local vector as it stands, and a move in
SETTLING ends (R15, R70, R96). -/
def State.agedOut (s : State) : State :=
  if s.meas.fresh = true ∧ 3 ≤ s.meas.age then
    State.endSettling
      { s with
        meas := { s.meas with fresh := false }
        flags := s.flags ||| BitVec.twoPow 19 4
        line := Line.refresh s.pins.lcd (s.line.ripened s.meas.vec) }
  else s

/-- The held states after a record's readings (R12). -/
def State.heldAfter (s : State) (rs : List Reading) : List Held :=
  s.meas.held.mapIdx fun i h =>
    if s.conf.count ≤ i then h
    else
      let r := rs.getD i ⟨0, false⟩
      if r.valid then
        { h with
          value := max (-1000) (min 1000 r.value)
          saturated := decide (1000 < r.value ∨ r.value < -1000)
          unmeasured := false
          invalid := 0 }
      else { h with invalid := min 3 (h.invalid + 1), unmeasured := h.unmeasured || decide (2 ≤ h.invalid) }

/-- The state after steps 1 to 3 of an accepted record of window `w`: held readings, window number, sums and way currents, the record
snapshot, an unripe OUTCOME ripe, and a FRESH measurement of age 0. -/
def State.afterRecord (s : State) (w : Byte) (rs : List Reading) : State :=
  let u : State := { s with meas := { s.meas with held := s.heldAfter rs } }
  let v := u.placedSum fun _ => true
  { s with
    meas :=
      { held := s.heldAfter rs
        lastWindow := some w
        reading := none
        vec := v
        ways := (List.range 4).map fun k => u.placedSum fun i => s.wayOf i == k
        fresh := true
        age := 0 }
    line := Line.refresh s.pins.lcd
      (Line.ripened v
        { s.line with snap := ⟨v, u.placedCounts, s.planner.st == .executing, s.planner.progress, s.planner.last⟩ }) }

/-! ### The bytes a service link command carries (R177, R189) -/

/-- The bytes a command brings after its start byte: a malformed frame's own, or those of a request's frame. -/
def serviceBytes (c : Instr) : Option (List Byte) :=
  match c with
  | .malformedFrame bytes => some bytes
  | .status p => some (requestBytes 1 p)
  | .readConnection p => some (requestBytes 2 p)
  | .readNeighbour p => some (requestBytes 3 p)
  | .readEvents p => some (requestBytes 4 p)
  | .clearEvents p => some (requestBytes 5 p)
  | .release p => some (requestBytes 6 p)
  | .override p => some (requestBytes 7 p)
  | .lock p => some (requestBytes 8 p)
  | .hold p => some (requestBytes 9 p)
  | .restart p => some (requestBytes 10 p)
  | .ident p => some (requestBytes 11 p)
  | .unknownRequestKind kind p => some (requestBytes kind p)
  | _ => none

end Sys2Proof.Machine
end

