-- ==== Sys2Proof/Certificates/Slice0/Obligations.lean ====
section
/-! DEFINITION. The statements for the provers, chapter by chapter of the spec. A next state is written out as the fields it
changes: every field a statement does not name is the same before and after. -/

open Sys2Proof Sys2Proof.Machine

/-! ### The block as a whole -/

/-- A step runs the command at the front of the queue on the state with the queue's rest. With no command waiting the block idles,
taking one nominal holdover cycle while no cycle events come, in the engine's count and in the access, which completes its gap and
starts the head frame with the cycle that brings it (R58, R104, R105): that an idle step is such a cycle is the model's choice (log
entry 3). -/
def Obligations.StepRunsFrontCommand : Prop :=
  (∀ (c : Instr) (rest : List Instr) (s : State), s.pending = c :: rest → step s = exec c { s with pending := rest })
  ∧ ∀ s : State, s.pending = [] →
    step s = .next
      (if s.pins.pornLow = true ∨ (s.time.aligned = true ∧ s.time.ref ≠ none) then s else s.cycled)

/-- A power-on reset leaves every block at the value its own chapter gives, and while PORN stays low no command but PORN's own
changes anything beside the levels of the other input pins (R2, R3, R5, R8, R11 to R15, R17, R20, R59, R82, R94, R101, R107,
R109, R125, R154, R158, R164, R174, R177, R178). That a power-on reset keeps the other pins, and that their levels are followed
while PORN is low, is the model's choice (log entry 5); so is the mode LOADING while PORN is still low (log entry 36); so are the values of the fields that no rule gives one: no record being
read, no changeover and no count made at a crossing, no tick due, the next inventory index, the sampling remaining, no frame
being dropped, no RESTART pending and no record marked for the next tick (log entry 29). -/
def Obligations.PowerOnResetAndPornLow : Prop :=
  (∀ (c : Instr) (s : State), s.pins.pornLow = true → c ≠ .powerOnReset → c ≠ .pornRise →
     ∃ q : Pins, q.pornLow = true ∧ exec c s = .next { s with pins := q })
  ∧ (∀ s : State, ∃ t : State, exec .powerOnReset s = .next t
       ∧ t.mode = .loading ∧ t.station.listenOnly = none ∧ t.station.overridesOpen = true ∧ (∀ i, t.overrideOf i = none)
       ∧ t.cfg = none ∧ t.time = ⟨0, false, none, false, ⟨false, false, false⟩, .holdover, 0, 0⟩
       ∧ (∀ p, t.phases.get p = ⟨false, false, false, 0⟩)
       ∧ t.meas.fresh = false ∧ t.meas.lastWindow = none ∧ t.meas.reading = none ∧ t.meas.vec = ⟨0, 0, 0⟩
       ∧ t.meas.ways = List.replicate 4 ⟨0, 0, 0⟩ ∧ t.meas.held = List.replicate 32 ⟨0, false, true, 3, none⟩
       ∧ (∀ i, t.conn i = ⟨.unconfigured, none, 0, 0, false, none, none, false⟩)
       ∧ t.engine = ⟨none, [], false, 0⟩ ∧ t.budget = ⟨false, false, 0, 0, 0, 0, 0⟩
       ∧ t.line = ⟨none, none, none, none, .idle, none, .none, ⟨⟨0, 0, 0⟩, ⟨0, 0, 0⟩, false, 0, none⟩⟩ ∧ (∀ k, t.slot k = none)
       ∧ t.planner = ⟨.idle, 0, none, [], [], none, 0, none, none, none, none, none⟩
       ∧ (∀ k, t.comps.getD k false = false) ∧ t.flags = 0 ∧ t.svc = ⟨.idle, false, false, false⟩
       ∧ t.pins = { s.pins with pornLow := true } ∧ t.out = s.out ∧ t.pending = s.pending)

/-! ### Loading and restart (chapter 10) -/

/-- A rise of PORN begins LOADING, from the power-on values, with a read attempt; a failed attempt, for want of an acknowledge or on a
bus held low, is tried again after the retry wait, and the fourth failure leads to CONFIG_FAULT (R164, R165). An image read whole
is checked: a good one is clamped, taken into every block and INVENTORY entered with its first query; a bad one leads to
CONFIG_FAULT (R163, R166, R167, R168, R32, R75). -/
def Obligations.LoadingTakesTheImage : Prop :=
  ((∀ s : State, s.pins.pornLow = true →
      exec .pornRise s = .next
        { State.reset with
          pins := { s.pins with pornLow := false }
          station := ⟨.loading, none, true, List.replicate 32 none, .reading, 0⟩
          draws := s.draws
          out := .imageRead :: s.out
          pending := s.pending })
   ∧ ((∀ (c : Instr) (s : State), c = .readAttemptFailure ∨ c = .busHeldLowTimeout → s.pins.pornLow = false →
        s.mode = .loading → s.station.loader = .reading →
        exec c s = .next
          { s with
            station :=
              if s.station.failures < 3 then { s.station with loader := .waiting, failures := s.station.failures + 1 }
              else { s.station with mode := .configFault, listenOnly := none, loader := .idle, failures := 0 } })
      ∧ ∀ s : State, s.pins.pornLow = false → s.mode = .loading → s.station.loader = .waiting →
        exec .readRetryWaitExpiry s = .next
          { s with station := { s.station with loader := .reading }, out := .imageRead :: s.out }))
  ∧ (∀ (image : List Byte) (s : State), s.pins.pornLow = false → s.mode = .loading → s.station.loader = .reading →
       exec (.readAttemptSuccess image) s = .next
         (if image.length = 256 ∧ image.drop 254 = wordBytes (crc16 (image.take 254)) ∧ img8 image 0 = 1
             ∧ 1 ≤ img8 image 1 ∧ img8 image 1 ≤ 250 then
           let c := clampImage image
           let t : State :=
             { s with
               cfg := some c.val
               station := { s.station with mode := .inventory, listenOnly := none, loader := .idle, failures := 0 }
               flags := if c.changed then s.flags ||| BitVec.twoPow 19 11 else s.flags
               conns := inventoryRecords c.val.count s.conns }
           if s.pins.resetnLow then { t with engine := { s.engine with req := none, invNext := 0 } } else t.inventoryBegun
         else
           { s with station := { s.station with mode := .configFault, listenOnly := none, loader := .idle, failures := 0 } }))

/-- Whatever an image holds, its settings after the clamps lie in their ranges and agree with one another; an image that needed no
clamp is taken as it is, field by field (R19, R21, R22, R150, R167, section 12.3). That a disabled comparator's value is brought
into its range too is the model's reading (log entry 14). -/
def Obligations.LoadedSettingsInRange : Prop :=
  ∀ im : List Byte,
    let c := (clampImage im).val
    c.Clamped
    ∧ (c.mains = 50 ∨ c.mains = 60) ∧ c.ratings.length = 4 ∧ (∀ r ∈ c.ratings, 100 ≤ r ∧ r ≤ 6000)
    ∧ 1 ≤ c.pMax ∧ c.pMax ≤ 3 ∧ 10 ≤ c.gainFloor ∧ c.gainFloor ≤ 1000 ∧ c.minMove ≤ 200
    ∧ 30 ≤ c.evalInt ∧ c.evalInt ≤ 900 ∧ 60 ≤ c.dwell ∧ c.dwell ≤ 7200 ∧ 2 ≤ c.announce ∧ c.announce ≤ 30
    ∧ 2 ≤ c.listen ∧ c.listen ≤ 10 ∧ c.listen + 3 ≤ c.lifetime ∧ 5 ≤ c.lifetime ∧ c.lifetime ≤ 60
    ∧ 10 ≤ c.report ∧ c.report ≤ 120 ∧ 60 ≤ c.sampling ∧ c.sampling ≤ 3600 ∧ 1 ≤ c.threshold ∧ c.threshold ≤ 255
    ∧ c.throttle ≤ 63 ∧ 10 ≤ c.monitoring ∧ c.monitoring ≤ 600 ∧ c.monMax ≤ 15
    ∧ 1800 ≤ c.lossThr ∧ c.lossThr ≤ 2100 ∧ 10 ≤ c.holdTime ∧ c.holdTime ≤ 600
    ∧ c.comps.length = 4 ∧ (∀ d ∈ c.comps, d.source.range.1 ≤ d.value ∧ d.value ≤ d.source.range.2)
    ∧ ((clampImage im).changed = false →
        c.version = img8 im 0 ∧ c.address = img8 im 1 ∧ c.feeder = bytesWord (imgByte im 2) (imgByte im 3)
        ∧ c.mains = img8 im 4 ∧ c.count = img8 im 5 ∧ c.bounds = [img8 im 6, img8 im 7, img8 im 8, img8 im 9]
        ∧ c.pMax = img8 im 50 ∧ c.gainFloor = img16 im 51 ∧ c.minMove = img8 im 53 ∧ c.evalInt = img16 im 54
        ∧ c.dwell = img16 im 56 ∧ c.announce = img8 im 58 ∧ c.listen = img8 im 59 ∧ c.lifetime = img8 im 60
        ∧ c.report = img8 im 61 ∧ c.sampling = img16 im 62 ∧ c.threshold = img8 im 64 ∧ c.throttle = img8 im 65
        ∧ c.monitoring = img16 im 66 ∧ c.monMax = img8 im 68 ∧ c.lossThr = img16 im 69 ∧ c.holdTime = img16 im 71
        ∧ c.ratings = [img16 im 10, img16 im 12, img16 im 14, img16 im 16]
        ∧ c.mask = (bytesWord (imgByte im 73) (imgByte im 74)).setWidth 14 ∧ c.manual = decide (img8 im 75 = 1)
        ∧ (∀ i, i < c.count → ∃ x : ConnCfg, c.conns[i]? = some x
            ∧ x.allowed = ⟨(imgByte im (18 + i)).getLsbD 0, (imgByte im (18 + i)).getLsbD 1, (imgByte im (18 + i)).getLsbD 2⟩
            ∧ phaseCode x.home = (imgByte im (18 + i) >>> 3) &&& 3 ∧ attrCode x.attr = (imgByte im (18 + i) >>> 5) &&& 3)
        ∧ ∀ k, k < 4 → ∃ d : CompDef, c.comps[k]? = some d ∧ d.enable = (imgByte im (76 + 8 * k)).getLsbD 7
            ∧ codeAction (imgByte im (76 + 8 * k) &&& 3) = some d.action
            ∧ codeSource (imgByte im (77 + 8 * k)) = some d.source ∧ codeCond (imgByte im (78 + 8 * k)) = some d.cond
            ∧ d.value = img32 im (79 + 8 * k))

/-- A fall of RESETN is a restart in a working mode and nothing but the pin's level in the other two; its rise in INVENTORY begins
the inventory afresh (R169, R170, R175). A RESTART waits for its response to leave, and the end of that response is the restart
event with its first inventory query; the end of any other response frees the receive state, or leaves it DISCARDING while a
dropped frame still arrives (R177, R178, R185). That a restart keeps a record being read is the model's reading (log entry 20). -/
def Obligations.RestartsByPinAndByRequest : Prop :=
  ((∀ s : State, s.pins.pornLow = false → s.pins.resetnLow = false →
     exec .resetnFall s = .next
       (if s.mode = .loading ∨ s.mode = .configFault then { s with pins := { s.pins with resetnLow := true } }
        else { s.afterRestart with pins := { s.pins with resetnLow := true } }))
   ∧ ∀ s : State, s.pins.pornLow = false → s.pins.resetnLow = true →
     exec .resetnRise s = .next
       (if s.mode = .inventory then
         State.inventoryBegun
           { s with
             pins := { s.pins with resetnLow := false }
             station := { s.station with listenOnly := none }
             conns := inventoryRecords s.conf.count s.conns }
        else { s with pins := { s.pins with resetnLow := false } }))
  ∧ (∀ s : State, s.pins.pornLow = false → s.mode.working = true →
       (s.svc.rx = .idle ∨ s.svc.rx = .receiving →
         exec (.restart []) s = .next
           { s with
             svc := { s.svc with rx := .responding, restartPending := true }
             out := .response (responseBytes 10 0 []) :: s.out })
       ∧ (s.svc.rx = .responding → s.svc.restartPending = true → s.pins.resetnLow = false →
         exec .responseEnd s = .next s.afterRestart.inventoryBegun)
       ∧ (s.svc.rx = .responding → s.svc.restartPending = false →
         exec .responseEnd s = .next
           { s with svc := { s.svc with rx := if s.svc.dropping then .discarding else .idle } }))

/-- Across every command but PORN's own two, the loaded configuration stays fixed but for its taking at the end of LOADING, and the
override table changes only in the entry that an OVERRIDE taken while the overrides are open writes (R20, R163, R174). That the
OVERRIDE may stand among the bytes of a row of another name is the model's choice of what such a row carries (log entry 18). -/
def Obligations.SettingsChangeOnlyAsRuled : Prop :=
  ∀ (c : Instr) (s t : State), exec c s = .next t → c ≠ .powerOnReset → c ≠ .pornRise →
    (t.cfg ≠ s.cfg → s.mode = .loading ∧ ∃ image, c = .readAttemptSuccess image ∧ t.cfg = some (clampImage image).val)
    ∧ (t.station.overrides ≠ s.station.overrides →
        s.station.overridesOpen = true ∧ ∃ i a : Byte, ∃ attr : Attr, codeAttr a = some attr
          ∧ t.station.overrides = s.station.overrides.set i.toNat (some attr)
          ∧ (c = .override [i, a] ∨ c = .unknownRequestKind 7 [i, a]
              ∨ ∃ bytes rest, serviceBytes c = some bytes ∧ gathered bytes = .request 7 [i, a] rest))

/-! ### Timebase, phases and measurement (chapter 1) -/

/-- A crossing for which the engine holds no command: the phase's mark is set and its watch restarted, and only a negative-going one
of the reference reaches the cycle counter, where it aligns it, is passed over after a changeover, or is counted (R1 to R5, R58). A
counted one is a cycle of the access, whose second cycle of a gap completes it and whose last cycle of a deferral starts the head
frame (R104, R105). The model's own here: a counted crossing lowers the engine's count, whose end is taken by its own row (log entry
1); the marks that tell which crossing is counted after a changeover (log entry 10); the crossing has the direction it
carries, whatever the pin's level was (log entry 11); and a transmission it starts comes before what the same cycle event leads to
in the other blocks (log entry 37). -/
def Obligations.CrossingReachesTheCounter : Prop :=
  ∀ (p : Phase) (e : Edge) (s : State), s.pins.pornLow = false → (s.engine.req.all fun r => !r.waitsFor p) = true →
    let marked : State :=
      { s with
        pins := { s.pins with zc := s.pins.zc.set p (e == .positive) }
        phases := s.phases.set p { s.phases.get p with mark := true, watch := s.present p } }
    let since := s.time.countedSince
    exec (.crossing p e) s = .next
      (if e = .positive then marked
       else if s.time.ref ≠ some p then { marked with time := { s.time with countedSince := since.set p false } }
       else if s.time.aligned = false then
         { marked with time := { s.time with aligned := true, changing := false, countedSince := since.set p false } }
       else if s.time.changing = true ∧ since.get p = true then
         { marked with time := { s.time with changing := false, countedSince := since.set p false } }
       else
         State.cycled
          { marked with
            time :=
              { s.time with
                counter := s.time.counter + 1
                changing := false
                countedSince := Ph3.set ⟨true, true, true⟩ p false
                source := .mains
                divider :=
                  if s.time.source = .holdover then 0
                  else if s.conf.mains ≤ s.time.divider + 1 then 0 else s.time.divider + 1
                ticksDue :=
                  if s.time.source = .mains ∧ s.conf.mains ≤ s.time.divider + 1 then s.time.ticksDue + 1
                  else s.time.ticksDue } })

/-- A crossing of either direction sends the command a request holds for its phase: BREAK at the from-phase, MAKE at the target, the
fallback target or the recovery target; all else is as the crossing makes it with no request in flight, which is in
CrossingReachesTheCounter, and records, readings, planner and flags stay as they were (R65, R66, R68, R73). That the count begun at
the crossing does not count the crossing's own cycle is the model's choice (log entry 30). -/
def Obligations.CrossingSendsHeldCommand : Prop :=
  ∀ (p : Phase) (e : Edge) (s : State) (r r' : Req) (k : ModCmd), s.pins.pornLow = false → s.engine.req = some r →
    ((∃ m : MoveReq, r = .move m ∧ m.step = .breakWait ∧ m.src = p
        ∧ r' = .move { m with step := .breakSent, cycles := 3 } ∧ k = .break m.conn)
      ∨ (∃ m : MoveReq, r = .move m ∧ m.step = .gap ∧ m.dst = p
        ∧ r' = .move { m with step := .making, cycles := 3 } ∧ k = .make m.conn p)
      ∨ (∃ m : MoveReq, r = .move m ∧ m.step = .fbWait p
        ∧ r' = .move { m with step := .fbMake p, cycles := 3 } ∧ k = .make m.conn p)
      ∨ (∃ i n, r = .recovery i (.wait p) n ∧ r' = .recovery i (.make p) 3 ∧ k = .make i p)) →
    ∃ v : State, exec (.crossing p e) { s with engine := { s.engine with req := none } } = .next v
      ∧ exec (.crossing p e) s = .next { v with engine := { s.engine with req := some r' }, out := .command k :: v.out }
      ∧ v.conns = s.conns ∧ v.meas = s.meas ∧ v.planner = s.planner ∧ v.flags = s.flags ∧ v.station = s.station
      ∧ v.cfg = s.cfg ∧ v.budget = s.budget ∧ v.nbrs = s.nbrs ∧ v.comps = s.comps ∧ v.svc = s.svc ∧ v.pending = s.pending
      ∧ (e = .positive → v.time = s.time ∧ v.line = s.line ∧ v.draws = s.draws ∧ v.out = s.out)

/-- A seconds tick counts every timer in seconds down by one and the measurement age up, and takes the ends that the rules give to the
tick. A RESTING connection whose dwell ends, or that has none, goes to STEADY; a window of the budget ends, its count zeroed, and the
next begins; a throttle period ends with the budget OPEN and no monitoring window; a queued HOLD whose time ends leaves the queue,
which may leave the access IDLE (R5, R28, R30, R83, R86, R87, R90, R97, R103, R125, R130, R171). The neighbour table takes the tick
whole: entries grow older, go STALE, leave their slots, and lose an intent or a hold that has run out; what is lost leaves the
precedence list (R117 to R121, R135). A FRESH measurement that reaches the age of 3 goes STALE (R15, R70, R96). A tick that empties the precedence list of a HELD planner, which stands in ACTIVE with a plan,
releases it; where its own lifetime ends at that tick too, a draw decides between the release and the withdrawal (R135, R138, R139,
R148). The model's own here: a tick the divider has given is taken once, whatever the source is by then, and under MAINS nothing
happens without one (log entry 2); every other expiry is left to the command of its own row (log entry 1); the draw (log entry 33);
and the release comes after every count of the tick, and the change to STALE after it (log entry 34). -/
def Obligations.SecondsTickCountsEveryTimer : Prop :=
  ∀ s : State, s.pins.pornLow = false → (s.planner.st = .held → s.mode = .active ∧ s.planner.plan ≠ none) →
    let stale := 3 * s.conf.report
    let forget := 10 * s.conf.report
    let counted (t : State) : State :=
      { t with
        conns := t.conns.map fun c =>
          { c with
            dwell := c.dwell - 1
            st := if c.st = .resting ∧ c.dwell ≤ 1 then .steady else c.st
            unticked := false
            member := c.member.map fun k => { k with retry := k.retry - 1 } }
        budget :=
          let b := t.budget
          let expires := b.throttled && decide (b.throttleLeft ≤ 1)
          let monEnds := b.throttled && decide (b.monLeft ≤ 1)
          let sampEnds := b.running && decide (b.sampLeft ≤ 1)
          { b with
            throttled := b.throttled && !expires
            sampCount := if sampEnds || expires then 0 else b.sampCount
            sampLeft := if sampEnds then s.conf.sampling else if b.running then b.sampLeft - 1 else b.sampLeft
            throttleLeft := if b.throttled then b.throttleLeft - 1 else b.throttleLeft
            monLeft :=
              if expires then 0 else if monEnds then s.conf.monitoring else if b.throttled then b.monLeft - 1 else b.monLeft
            monCount := if expires || monEnds then 0 else b.monCount }
        line :=
          match t.line.qHold with
          | some h =>
            if h.dur ≤ 1 then Line.refresh s.pins.lcd { t.line with qHold := none }
            else { t.line with qHold := some { h with dur := h.dur - 1 } }
          | none => t.line
        nbrs := t.nbrs.map fun x => x.bind fun e =>
          if forget ≤ e.age + 1 then none
          else if e.fresh = false then some { e with age := e.age + 1 }
          else if stale ≤ e.age + 1 then some ⟨e.addr, false, e.age + 1, none, none, e.last, 0, none, none⟩
          else some
            { e with
              age := e.age + 1
              intent := e.intent.bind fun i => if i.life ≤ 1 then none else some { i with life := i.life - 1 }
              hold := e.hold.bind fun h => if h.left ≤ 1 then none else some { h with left := h.left - 1 } }
        planner :=
          { t.planner with
            prec := t.planner.prec.filter fun k => !(t.nbrs.any fun x => x.any fun e =>
              k.addr == e.addr && (decide (forget ≤ e.age + 1) || (e.fresh && (decide (stale ≤ e.age + 1)
                || e.intent.any fun i => k.num == i.num && decide (i.life ≤ 1)))))
            ownHold := t.planner.ownHold - 1
            evalT := t.planner.evalT.map (· - 1)
            reportT := t.planner.reportT.map (· - 1)
            announceT := t.planner.announceT.map (· - 1)
            listenT := t.planner.listenT.map (· - 1)
            lifetimeT := t.planner.lifetimeT.map (· - 1) }
        station := { t.station with listenOnly := t.station.listenOnly.map (· - 1) }
        meas := { t.meas with age := if t.meas.fresh then t.meas.age + 1 else t.meas.age } }
    let tick (t : State) : State :=
      let u := counted t
      match t.planner.plan with
      | some p =>
        if t.planner.st = .held ∧ t.planner.prec ≠ [] ∧ u.planner.prec = [] then
          if u.planner.lifetimeT = some 0 then
            if u.drawValue 1 = 0 then State.withdrawn { u with draws := u.draws + 1 } p
            else State.released { u with draws := u.draws + 1 } p
          else u.released p
        else u
      | none => u
    exec .secondsTick s = .next
      (if 0 < s.time.ticksDue then (tick { s with time := { s.time with ticksDue := s.time.ticksDue - 1 } }).agedOut
       else if s.time.source = .holdover then (tick s).agedOut
       else s)

/-- A crossing watch that expires takes its phase to LOST while another stays PRESENT: PHASE_LOST is set, the reference moves to the
next PRESENT phase when it was the one lost, in ACTIVE the MOVABLE connections on the lost phase join the rescue list in index
order with their held readings, the engine takes the event and then the planner (R4, R6, R9, R53, R76, R142; what the planner does is
PlannerTakesEventsByItsState). In the engine a BREAK held for the phase is sent at once; a move in GAP to it enters FALLBACK, for the
target chosen without the phase; a FALLBACK waiting for it, or left without a target, fails as at the end of its wait; a recovery
waiting for it fails its attempt as at the end of its wait; every other request goes on, and a FREE engine looks at its sources (R60,
R65, R66, R68, R73, R79; FailedFallbackLeavesDark and FailedRecoveryCountsItsAttempt say what those ends leave). That the planner
comes last is the model's reading (log entry 9). -/
def Obligations.WatchExpiryLosesThePhase : Prop :=
  ∀ (p q : Phase) (s t : State), s.pins.pornLow = false → s.present p = true → (s.phases.get p).watch = true →
    p ≠ q → s.present q = true → s.time.ref = s.chosenRef →
    let u : State :=
      { s with
        phases := s.phases.set p { s.phases.get p with present := false, watch := false, returns := 0 }
        flags := s.flags ||| BitVec.twoPow 19 5
        time :=
          if s.time.ref = some p then
            { s.time with ref := Phase.all.find? fun x => x != p && s.present x, changing := true }
          else s.time
        engine :=
          { s.engine with
            rescue := s.engine.rescue ++
              if s.mode = .active then
                ((List.range 32).filter fun j => s.rescueSelected p j && !s.engine.lists j).map
                  fun j => ⟨j, (s.held j).value, p⟩
              else [] } }
    let waits (r : Req) : State := { u with engine := { u.engine with req := some r } }
    let failing (m : MoveReq) : Host.Outcome State Fault Refusal :=
      exec .fallbackWaitLimit (waits (.move { m with step := .fbWait p, cycles := 0 }))
    (match s.engine.req with
      | some (.move m) =>
        match m.step with
        | .breakWait =>
          if m.src = p then
            t = { waits (.move { m with step := .breakSent, cycles := 3 }) with out := .command (.break m.conn) :: s.out }
          else t = u
        | .gap =>
          if m.dst = p then
            match if m.rescue = false ∧ u.present m.src = true then some m.src else u.otherTarget m with
            | some x => t = waits (.move { m with step := .fbWait x, cycles := 2 })
            | none => failing m = .next t
          else t = u
        | .fbWait x => if x = p then failing m = .next t else t = u
        | .arming | .breakSent | .breakQuery | .making | .fbMake _ | .settling => t = u
      | some (.recovery i (.wait x) _) =>
        if x = p then exec .recoveryWaitLimit (waits (.recovery i (.wait p) 0)) = .next t else t = u
      | some (.recovery _ .query _) | some (.recovery _ (.make _) _) | some (.check _ _) | some (.inventory _ _) => t = u
      | none => t = u.arbitrate) →
    exec (.crossingWatchExpiry p) s = .next t.plannerPhaseLoss

/-- The loss of the last PRESENT phase in ACTIVE or LISTEN_ONLY leaves the station in BLACKOUT, with no reference, the line emptied,
the planner at rest, the rescue list and its mark cleared and the engine FREE; the record of the request in flight is left as the
table of R80 says, but that a recovery waiting for a crossing of the lost phase may have had its attempt counted first (R4, R5,
R9, R73, R79, R80, R107, R146, R173). All of it holds whichever order the receivers take the loss in, which the model leaves to a
draw (log entry 8); what differs by the order, flags and the own hold among it, is not stated (log entry 35). -/
def Obligations.LastPhaseLossEntersBlackout : Prop :=
  ∀ (p : Phase) (s : State), s.pins.pornLow = false → s.mode = .active ∨ s.mode = .listenOnly → s.present p = true →
    (s.phases.get p).watch = true → (∀ q, q ≠ p → s.present q = false) →
    ∃ t : State, exec (.crossingWatchExpiry p) s = .next t
      ∧ t.mode = .blackout ∧ t.station.listenOnly = none ∧ t.anyPresent = false ∧ t.time.ref = none
      ∧ (s.time.ref ≠ none → t.time.source = .holdover)
      ∧ t.line.quiet = true ∧ t.planner.atRest = true
      ∧ t.engine.req = none ∧ t.engine.rescue = [] ∧ t.engine.rescueDone = false ∧ t.flagSet .phaseLost = true
      ∧ t.cfg = s.cfg ∧ t.nbrs = s.nbrs ∧ t.budget = s.budget ∧ t.comps = s.comps ∧ t.svc = s.svc
      ∧ t.station.overrides = s.station.overrides ∧ t.station.overridesOpen = s.station.overridesOpen
      ∧ t.planner.intentNo = s.planner.intentNo ∧ t.meas.vec = s.meas.vec ∧ t.meas.fresh = s.meas.fresh
      ∧ (∀ m : MoveReq, s.engine.req = some (.move m) → m.conn < s.conns.length → (s.conn m.conn).member = none →
          let c := s.conn m.conn
          t.conn m.conn = match m.step with
            | .arming | .breakWait | .breakSent | .breakQuery => { c with note := none, st := .faulted, cur := some m.src }
            | .gap | .making | .fbWait _ | .fbMake _ =>
              { c with note := none, st := .dark, cur := none, attempts := 0, member := some ⟨.recover, 10⟩ }
            | .settling =>
              { c with
                note := none
                st := .resting
                dwell := if m.rescue then c.dwell else s.conf.dwell
                unticked := m.rescue && c.dwell == 0 })
      ∧ (∀ i r n, s.engine.req = some (.recovery i r n) →
          let c := s.conn i
          let kept : Conn := { c with member := c.member.map fun k => { k with retry := 10 } }
          t.conn i = kept ∨ (r = .wait p ∧ t.conn i =
            if c.attempts < 2 then { kept with attempts := c.attempts + 1 }
            else { c with attempts := c.attempts + 1, st := .darkLocked, member := none }))
      ∧ (∀ i n, s.engine.req = some (.check i n) →
          t.conn i = { s.conn i with member := (s.conn i).member.map fun k => { k with retry := 0 } })

/-- Data-ready is declined with an acknowledge in LOADING and CONFIG_FAULT, discarded with one for the window number last accepted,
and otherwise begins a record; an abandoned record is dropped with no effect (R10, R11). A FRESH measurement whose age has
reached 3 becomes STALE with MEASUREMENT_LOST set, an unripe OUTCOME takes the local vector as it stands, and a move in SETTLING
ends (R15, R70, R96; its end is SettlingConcludesDone). In the model the tick that raises the age takes the change itself, and the row
finds none left (log entry 15). That a second data-ready while a record is read, and the row of STALE before its age, change nothing
is the model's choice (log entry 26). -/
def Obligations.RecordsTakenAndMeasurementStale : Prop :=
  (∀ (w : Byte) (s : State), s.pins.pornLow = false →
     exec (.dataReady w) s = .next
       (if s.mode = .loading ∨ s.mode = .configFault then { s with out := .ack :: s.out }
        else if s.meas.reading ≠ none then s
        else if s.meas.lastWindow = some w then { s with out := .ack :: s.out }
        else { s with meas := { s.meas with reading := some w } })
     ∧ exec .recordAbandoned s = .next { s with meas := { s.meas with reading := none } })
  ∧ (∀ s : State, s.pins.pornLow = false →
       exec .measurementStale s = .next
         (if s.meas.fresh = true ∧ 3 ≤ s.meas.age then
           State.endSettling
             { s with
               meas := { s.meas with fresh := false }
               flags := s.flags ||| BitVec.twoPow 19 4
               line := Line.refresh s.pins.lcd (s.line.ripened s.meas.vec) }
         else s))

/-- An accepted record: readings, sums, snapshot and freshness take their new values and an unripe OUTCOME its vector; then the phases
are supervised, the comparators evaluated, and a move in SETTLING ends, in this order (R11 to R16, R70, R94, R96; the three are
RecordLosesAndReturnsPhases, ComparatorFiresAndAlertFollows and SettlingConcludesDone). With every phase PRESENT at or above
the loss threshold, no comparator enabled and no move in SETTLING, nothing but the crossing-seen marks is left to change. That a
reading the record lacks counts as invalid is the model's choice (log entry 27). -/
def Obligations.AcceptedRecordIsHandled : Prop :=
  ∀ (rs : List Reading) (volts : Ph3 Nat) (w : Byte) (s : State), s.pins.pornLow = false → s.meas.reading = some w →
    let u := s.afterRecord w rs
    exec (.acceptedRecord rs volts) s = .next ((u.supervise volts).compareAll.endSettling)
    ∧ ((∀ p, s.present p = true ∧ s.conf.lossThr ≤ volts.get p) → (∀ d ∈ s.conf.comps, d.enable = false) →
        (s.engine.req.all fun r => !r.settles) = true →
        exec (.acceptedRecord rs volts) s = .next
          { u with phases := s.phases.map fun x => { x with mark := false } })

/-- At an accepted record a PRESENT phase below the loss threshold is lost, as by its watch, and one at or above it stays; a LOST phase
at or above the return threshold counts toward its return, once more when a crossing was seen since the last record and from 1
when none was, and a count of 2 returns it; every mark is then cleared (R7, R8). A return sets PHASE_RETURNED, chooses the
reference again and takes the rescue entries for the phase off the list, which may conclude the rescue; in BLACKOUT it leads to
LISTEN_ONLY, and the first phase back in LISTEN_ONLY starts its timer afresh (R4, R9, R77, R78, R171, R173). The order A, B, C of
the phases within a record, and of the receivers of an event, is the model's reading (log entry 9). -/
def Obligations.RecordLosesAndReturnsPhases : Prop :=
  (∀ (volts : Ph3 Nat) (s : State),
     let look (s : State) (p : Phase) : State :=
       let x := s.phases.get p
       let n := if s.conf.lossThr + 50 ≤ volts.get p then if x.mark then x.returns + 1 else 1 else 0
       if x.present then if volts.get p < s.conf.lossThr then s.phaseLoss p else s
       else if 2 ≤ n then s.phaseReturn p
       else { s with phases := s.phases.set p { x with returns := n } }
     let t := look (look (look s .A) .B) .C
     s.supervise volts = { t with phases := t.phases.map fun x => { x with mark := false } })
  ∧ (∀ (p : Phase) (s : State), s.pins.pornLow = false → s.present p = true → (s.phases.get p).watch = true →
       exec (.crossingWatchExpiry p) s = .next (s.phaseLoss p))
  ∧ ∀ (p : Phase) (s : State),
      let ref := Phase.all.find? fun x => x == p || s.present x
      let t : State :=
        { s with
          phases := s.phases.set p { s.phases.get p with present := true, watch := true, returns := 0 }
          flags := s.flags ||| BitVec.twoPow 19 6
          time := if ref = s.time.ref then s.time else { s.time with ref := ref, changing := s.time.ref.isSome }
          engine := { s.engine with rescue := s.engine.rescue.filter fun x => x.lost != p } }
      let u := t.rescueOver
      s.phaseReturn p =
        if s.mode = .blackout then
          State.arbitrate { u with station := { s.station with mode := .listenOnly, listenOnly := some (3 * s.conf.report) } }
        else if s.mode = .listenOnly ∧ s.anyPresent = false then
          { u with station := { s.station with listenOnly := some (3 * s.conf.report) } }
        else u

/-- A MOVABLE or FIXED connection counts on its current phase with its held reading when STEADY, RESTING or FAULTED, on its from-phase
with its pre-move value while MOVING, and on no phase otherwise. The local vector's component on a phase is the sum of the
currents of the connections placed on it; it stays within 32 times the largest current, and the four way currents add up to it
(R13, R14). -/
def Obligations.LocalVectorSumsPlacedCurrents : Prop :=
  (∀ (s : State) (i : Nat),
     let c := s.conn i
     let counts := s.configured i = true ∧ s.attrOf i ≠ .excluded
     (counts → c.st = .steady ∨ c.st = .resting ∨ c.st = .faulted →
       s.placement i = c.cur.map fun p => (p, (s.held i).value))
     ∧ (∀ n v, counts → c.st = .moving → c.note = some n → (s.held i).preMove = some v → s.placement i = some (n.src, v))
     ∧ (c.st = .dark ∨ c.st = .darkLocked ∨ c.st = .unconfigured ∨ ¬counts → s.placement i = none))
  ∧ ∀ (s : State) (p : Phase),
    (∀ f : Nat → Bool,
      (s.placedSum f).get p
        = ((List.range 32).map fun i =>
            match s.placement i with
            | some (q, c) => if f i = true ∧ q = p then c else 0
            | none => 0).sum)
    ∧ ((∀ i q c, s.placement i = some (q, c) → -1000 ≤ c ∧ c ≤ 1000) →
        -32000 ≤ (s.placedSum fun _ => true).get p ∧ (s.placedSum fun _ => true).get p ≤ 32000)
    ∧ ((∀ i, s.configured i = true → s.wayOf i < 4) →
        (s.placedSum fun _ => true).get p
          = (s.placedSum fun i => s.wayOf i == 0).get p + (s.placedSum fun i => s.wayOf i == 1).get p
            + (s.placedSum fun i => s.wayOf i == 2).get p + (s.placedSum fun i => s.wayOf i == 3).get p)

/-! ### Connection records (chapter 2) -/

/-- A RESTING connection whose dwell has run out goes to STEADY, and no other record changes; one that a rescue left RESTING without a
dwell waits for the next tick (R28). A member whose retry remaining has run out is taken by a FREE engine in ACTIVE and LISTEN_ONLY,
the lowest index first: a QUERY goes to its module, for a recovery or for a release check (R30, R60, R61, R73, R75). That the row of
a dwell's end finds none that the tick has left is the model's reading (log entry 31), and that it changes nothing in any other case
the model's choice (log entry 26). -/
def Obligations.DwellEndAndDueMember : Prop :=
  (∀ (i : Nat) (s : State), s.pins.pornLow = false →
     exec (.dwellEnd i) s = .next
       (if (s.conn i).st = .resting ∧ (s.conn i).dwell = 0 ∧ (s.conn i).unticked = false then
         { s with conns := s.conns.set i { s.conn i with st := .steady } }
       else s))
  ∧ (∀ (i : Nat) (k : Member) (s : State), s.pins.pornLow = false → s.mode = .active ∨ s.mode = .listenOnly → i < 32 →
       s.engine.req = none → (s.conn i).member = some k → k.retry = 0 →
       (∀ j < i, ((s.conn j).member.all fun x => decide (0 < x.retry)) = true) →
       exec (.recoveryRetryDue i) s = .next
         { s with
           engine :=
             { s.engine with
               req := some (match k.kind with
                 | .recover => .recovery i .query 5
                 | .check => .check i 5) }
           out := .command (.query i) :: s.out })

/-! ### The transfer engine (chapter 4) -/

/-- A FREE engine in ACTIVE with no member due takes the head of the rescue list, and with that list empty the first plan position
without a result (R60, R61). A plan move whose check passes and that the allowance permits arms its module: ARM is sent, the
connection is MOVING with its held reading as pre-move value; any other is SKIPPED (R12, R24, R52, R62, R64). A rescue entry
leaves the list; it arms the module for the target of the lowest estimate on the feeder view, sets RESCUE_INCOMPLETE when no
phase will do, and is passed over when its connection needs no rescue, which may end the rescue (R54 to R56, R63, R77, R78). -/
def Obligations.ArbiterTakesMoves : Prop :=
  ∀ s : State, s.mode = .active → s.engine.req = none → s.dueMember = none →
    let armed (s : State) (m : MoveReq) : State :=
      { s with
        conns := s.conns.modify m.conn fun c => { c with st := .moving, note := some ⟨m.rescue, m.src, m.dst⟩ }
        meas := { s.meas with held := s.meas.held.modify m.conn fun h => { h with preMove := some h.value } }
        engine := { s.engine with req := some (.move m) }
        out := .command (.arm m.conn) :: s.out }
    let fits (i : Nat) (q : Phase) (c : Int) : Bool :=
      decide (((wayVec s.meas.ways (s.wayOf i)).get q + c).natAbs ≤ s.rating (s.wayOf i))
    (∀ (p : Plan) (pos : Nat) (m : Move), s.engine.rescue = [] → s.planner.st = .executing → s.planner.plan = some p →
      pos < p.kept → p.results[pos]? = some none → (∀ j < pos, p.results[j]? ≠ some none) → p.moves[pos]? = some m →
      let c := (s.held m.conn).value
      let passes := s.configured m.conn = true ∧ s.attrOf m.conn = .movable ∧ (s.conn m.conn).st = .steady
        ∧ (s.conn m.conn).cur = some m.src ∧ s.present m.src = true ∧ m.src ≠ m.dst ∧ s.allows m.conn m.dst = true
        ∧ s.present m.dst = true ∧ (s.held m.conn).saturated = false ∧ (s.held m.conn).unmeasured = false
        ∧ s.conf.minMove ≤ c.natAbs ∧ fits m.conn m.dst c = true ∧ 1 ≤ s.allowance
      (passes → s.arbitrate = armed s ⟨false, m.conn, m.src, m.dst, m.cur, pos, .arming, 5⟩)
      ∧ (¬passes → s.arbitrate = (s.planResult pos .skipped).arbitrate))
    ∧ ∀ (x : RescueEntry) (rest : List RescueEntry), s.engine.rescue = x :: rest →
      let t : State := { s with engine := { s.engine with rescue := rest } }
      let able (q : Phase) : Bool := s.allows x.conn q && s.present q && fits x.conn q x.cur
      let calls (p : Phase) := s.attrOf x.conn = .movable ∧ ((s.conn x.conn).st = .steady ∨ (s.conn x.conn).st = .resting)
        ∧ (s.conn x.conn).cur = some p ∧ s.present p = false
      ((∀ p, ¬calls p) → s.arbitrate = t.rescueOver.arbitrate)
      ∧ (∀ p, calls p → (∀ q, able q = false) →
          s.arbitrate = (State.rescueOver { t with flags := s.flags ||| BitVec.twoPow 19 12 }).arbitrate)
      ∧ ∀ p q, calls p → able q = true →
          let estimate (y : Phase) : Nat :=
            let w := s.feederView.set p (s.feederView.get p - x.cur)
            neutral ((w.set y (w.get y + x.cur)).map fun c => max (-65535) (min 65535 c))
          (∀ y, able y = true → estimate q < estimate y
            ∨ (estimate q = estimate y ∧ (phaseCode q).toNat ≤ (phaseCode y).toNat)) →
          s.arbitrate = armed t ⟨true, x.conn, p, q, x.cur, 0, .arming, 5⟩

/-- READY naming the from-phase begins the transfer: a balancing start is counted by the switching budget, which it may throttle,
and BREAK is held for a crossing of the from-phase, or sent at once when that phase is LOST (R64, R65, R84, R85). -/
def Obligations.ReadyBeginsTheTransfer : Prop :=
  ∀ (m : MoveReq) (s : State), s.pins.pornLow = false → s.engine.req = some (.move m) → m.step = .arming →
    let b := s.budget
    let n := min 65535 (b.sampCount + 1)
    let enters := !b.throttled && decide (s.conf.threshold < n) && decide (0 < s.conf.throttle)
    let u : State :=
      if m.rescue then s
      else if b.throttled then { s with budget := { b with sampCount := n, monCount := b.monCount + 1 } }
      else if enters then
        { s with
          budget :=
            { b with
              throttled := true
              sampCount := n
              throttleLeft := s.conf.throttle * s.conf.sampling
              monLeft := s.conf.monitoring
              monCount := 0 }
          flags := s.flags ||| BitVec.twoPow 19 7 }
      else { s with budget := { b with sampCount := n } }
    exec (.ready m.conn (some m.src) true) s = .next
      (if s.present m.src then
        { u with engine := { s.engine with req := some (.move { m with step := .breakWait, cycles := 0 }) } }
      else
        { u with
          engine := { s.engine with req := some (.move { m with step := .breakSent, cycles := 3 }) }
          out := .command (.break m.conn) :: s.out })

/-- A rescue move in ARMING concludes on its ARM's answer or silence: NOT_READY leaves the connection RESTING or STEADY with
RESCUE_INCOMPLETE; READY naming no path leaves it DARK with TRANSFER_FAILED and CONNECTION_DARK; READY naming a closed path other than
the from-phase leaves it RESTING or STEADY there when the path is allowed, listed for another rescue when that phase is LOST and it is
MOVABLE, and FAULTED there with TRANSFER_FAILED when it is not allowed; no answer leaves it FAULTED on its from-phase with
MODULE_SILENT and TRANSFER_FAILED. The pre-move value is dropped and the engine FREE (R12, R23, R26, R27, R64, R72, R76). -/
def Obligations.ArmAnswerConcludesRescue : Prop :=
  ∀ (m : MoveReq) (s : State), s.pins.pornLow = false → s.engine.req = some (.move m) → m.step = .arming → m.rescue = true →
    s.mode = .active → (s.conn m.conn).member = none → s.nothingElse m.conn = true →
    let concluded (f : Conn → Conn) (flags : BitVec 19) : State :=
      { s with
        conns := s.conns.modify m.conn f
        meas := { s.meas with held := s.meas.held.modify m.conn fun h => { h with preMove := none } }
        engine := { s.engine with req := none }
        flags := s.flags ||| flags }
    exec (.notReady m.conn true) s = .next
        (concluded (fun c => { c with note := none, st := if 0 < c.dwell then .resting else .steady }) 0x01000)
    ∧ exec (.ready m.conn none true) s = .next
        (concluded
          (fun c => { c with note := none, st := .dark, cur := none, attempts := 0, member := some ⟨.recover, 10⟩ }) 0x00003)
    ∧ (∀ r : Phase, r ≠ m.src →
        let t := concluded
          (fun c =>
            { c with
              note := none
              cur := some r
              st := if s.allows m.conn r then if 0 < c.dwell then .resting else .steady else .faulted })
          (if s.allows m.conn r then 0 else 0x00002)
        exec (.ready m.conn (some r) true) s = .next
          (if s.allows m.conn r = true ∧ s.present r = false ∧ s.attrOf m.conn = .movable then
            State.arbitrate { t with engine := { t.engine with rescue := [⟨m.conn, (s.held m.conn).value, r⟩] } }
          else t))
    ∧ (m.cycles = 0 →
        exec .armTimeout s = .next
          (concluded (fun c => { c with note := none, st := .faulted, cur := some m.src }) 0x00006))

/-- A balancing move of a one-move plan answered NOT_READY, or READY naming a closed path other than its from-phase, concludes SKIPPED,
and with it the plan: an OUTCOME COMPLETED is queued unripe, PLAN_CONCLUDED is set, the intent number is last concluded, and the
planner rests with its evaluation timer drawn afresh. The path that READY names is where the connection now stands, FAULTED with
TRANSFER_FAILED when it is not allowed (R23, R26, R64, R72, R96, R127, R143, R145). -/
def Obligations.SkippedMoveConcludesThePlan : Prop :=
  ∀ (m : MoveReq) (mv : Move) (s : State), s.pins.pornLow = false → s.engine.req = some (.move m) → m.step = .arming →
    m.rescue = false → m.pos = 0 → s.planner.st = .executing → s.planner.plan = some ⟨[mv], 1, [none], 0⟩ →
    s.mode = .active → s.meas.fresh = true → (s.conn m.conn).cur = some m.src → s.present m.src = true →
    s.dueMember = none → s.engine.rescue = [] →
    let skipped (f : Conn → Conn) (flags : BitVec 19) : State :=
      { s.plannerRests (some s.planner.intentNo) with
        conns := s.conns.modify m.conn f
        meas := { s.meas with held := s.meas.held.modify m.conn fun h => { h with preMove := none } }
        engine := { s.engine with req := none }
        flags := s.flags ||| flags
        line := Line.refresh s.pins.lcd
          { s.line with qOutcome := some ⟨s.planner.intentNo, true, [.skipped], none⟩ } }
    exec (.notReady m.conn true) s = .next
        (skipped (fun c => { c with note := none, st := if 0 < c.dwell then .resting else .steady }) (BitVec.twoPow 19 17))
    ∧ ∀ r : Phase, r ≠ m.src → s.present r = true ∨ s.allows m.conn r = false →
        exec (.ready m.conn (some r) true) s = .next
          (skipped
            (fun c =>
              { c with
                note := none
                cur := some r
                st := if s.allows m.conn r then if 0 < c.dwell then .resting else .steady else .faulted })
            (if s.allows m.conn r then BitVec.twoPow 19 17 else BitVec.twoPow 19 17 ||| BitVec.twoPow 19 1))

/-- BREAK answered OPENED takes the current phase away and, with the target PRESENT, holds MAKE for its crossing; BREAK answered NAK, or
not at all, is followed by a QUERY (R23, R65, R66). The QUERY that finds a path closed concludes the move FAILED, FAULTED on that
path, with TRANSFER_FAILED; its silence concludes it FAILED and DARK, with MODULE_SILENT, TRANSFER_FAILED and CONNECTION_DARK and no
HOLD (R27, R29, R65, R72); here nothing else waits and the planner is IDLE. OPENED with the target LOST, and a QUERY that finds no
path closed, lead to FALLBACK, which is in FallbackTargetIsChosen and FailedFallbackLeavesDark. -/
def Obligations.BreakIsAnswered : Prop :=
  ∀ (m : MoveReq) (s : State), s.pins.pornLow = false → s.engine.req = some (.move m) →
    let asked : State :=
      { s with
        engine := { s.engine with req := some (.move { m with step := .breakQuery, cycles := 5 }) }
        out := .command (.query m.conn) :: s.out }
    let failed (f : Conn → Conn) (flags : BitVec 19) : State :=
      { s with
        conns := s.conns.modify m.conn f
        meas := { s.meas with held := s.meas.held.modify m.conn fun h => { h with preMove := none } }
        engine := { s.engine with req := none }
        flags := s.flags ||| flags }
    (m.step = .breakSent →
      (s.present m.dst = true →
        exec (.opened m.conn true) s = .next
          { s with
            conns := s.conns.modify m.conn fun c => { c with cur := none }
            engine := { s.engine with req := some (.move { m with step := .gap, cycles := 2 }) } })
      ∧ exec (.nak m.conn true) s = .next asked
      ∧ (m.cycles = 0 → exec .breakTimeout s = .next asked))
    ∧ (m.step = .breakQuery → s.mode = .active → (s.conn m.conn).member = none → s.nothingElse m.conn = true →
      (∀ x : Phase,
        exec (.queryAnswer m.conn (some x) true) s = .next
          (failed (fun c => { c with note := none, st := .faulted, cur := some x }) 0x00002))
      ∧ (m.cycles = 0 →
        exec .queryTimeout s = .next
          (failed
            (fun c => { c with note := none, st := .dark, cur := none, attempts := 0, member := some ⟨.recover, 10⟩ }) 0x00007)))

/-- A move goes to FALLBACK when GAP has run out, when its MAKE was answered NAK or not at all, when OPENED finds the target LOST, and
when the QUERY after BREAK finds no path closed; the last two take the current phase away. Where some phase will do, a balancing move
goes back to its from-phase while that is PRESENT, and any other takes the first phase that is allowed, PRESENT, not the target and
within the way limit, and its MAKE is held for that phase's crossing (R23, R45, R65, R66, R67, R68). -/
def Obligations.FallbackTargetIsChosen : Prop :=
  ∀ (c : Instr) (m : MoveReq) (t : Phase) (s : State), s.pins.pornLow = false → s.engine.req = some (.move m) →
    m.fallsBackAt s.present c →
    ((m.rescue = false ∧ s.present m.src = true ∧ t = m.src)
      ∨ ((m.rescue = true ∨ s.present m.src = false)
        ∧ (Phase.all.find? fun x =>
            s.allows m.conn x && s.present x && x != m.dst
              && decide (((wayVec s.meas.ways (s.wayOf m.conn)).get x + m.cur).natAbs ≤ s.rating (s.wayOf m.conn)))
          = some t)) →
    exec c s = .next
      { s with
        conns :=
          if m.step = .breakSent ∨ m.step = .breakQuery then s.conns.modify m.conn fun x => { x with cur := none } else s.conns
        engine := { s.engine with req := some (.move { m with step := .fbWait t, cycles := 2 }) } }

/-- CLOSED naming the target takes a move to SETTLING while the measurement is FRESH; CLOSED naming another phase, and CLOSED to the
fallback's MAKE, conclude a rescue move FAILED, supplied on the phase named, with TRANSFER_FAILED (R23, R27, R67, R69, R70, R72). -/
def Obligations.ClosedSettlesOrFails : Prop :=
  ∀ (m : MoveReq) (x : Phase) (s : State), s.pins.pornLow = false → s.engine.req = some (.move m) →
    (m.step = .making → x = m.dst → s.meas.fresh = true →
      exec (.closed m.conn x true) s = .next
        { s with
          conns := s.conns.modify m.conn fun c => { c with cur := some x }
          engine := { s.engine with req := some (.move { m with step := .settling, cycles := 0 }) } })
    ∧ ((m.step = .making ∧ x ≠ m.dst) ∨ (∃ t, m.step = .fbMake t) → m.rescue = true → s.mode = .active →
        (s.conn m.conn).member = none → s.nothingElse m.conn = true →
        exec (.closed m.conn x true) s = .next
          { s with
            conns := s.conns.modify m.conn fun c => { c with note := none, st := .faulted, cur := some x }
            meas := { s.meas with held := s.meas.held.modify m.conn fun h => { h with preMove := none } }
            engine := { s.engine with req := none }
            flags := s.flags ||| BitVec.twoPow 19 1 })

/-- The end of SETTLING concludes the move DONE: the connection is RESTING, a balancing move's with the configured dwell, a rescue's with
the dwell it had, marked for the next tick when that is 0; its pre-move value is dropped, and a MOVABLE connection left on a LOST phase is appended to the rescue list (R12,
R25, R70, R72, R76). A rescue sets the rescue-done mark, and with the list empty RESCUE_CONCLUDED is set, a LOAD offered and the
mark cleared (R78). A balancing move's result is recorded, and the last one concludes the plan with an OUTCOME and PLAN_CONCLUDED
(R96, R143, R145). The arbiter then looks at its sources. With no move in SETTLING nothing ends. -/
def Obligations.SettlingConcludesDone : Prop :=
  (∀ s : State, (s.engine.req.all fun r => !r.settles) = true → s.endSettling = s)
  ∧ ∀ (m : MoveReq) (s : State), s.engine.req = some (.move m) → m.step = .settling → s.mode = .active →
    (s.conn m.conn).cur = some m.dst →
    let done : State :=
      { s with
        conns := s.conns.modify m.conn fun c =>
          { c with
            note := none
            st := .resting
            dwell := if m.rescue then c.dwell else s.conf.dwell
            unticked := m.rescue && c.dwell == 0 }
        meas := { s.meas with held := s.meas.held.modify m.conn fun h => { h with preMove := none } }
        engine :=
          { s.engine with
            req := none
            rescue := s.engine.rescue ++
              if s.present m.dst = false ∧ s.attrOf m.conn = .movable ∧ s.engine.lists m.conn = false then
                [⟨m.conn, (s.held m.conn).value, m.dst⟩]
              else []
            rescueDone := s.engine.rescueDone || m.rescue } }
    (m.rescue = true → s.endSettling = done.rescueOver.arbitrate)
    ∧ (∀ p : Plan, m.rescue = false → s.planner.st = .executing → s.planner.plan = some p → p.results[m.pos]? = some none →
        let results := p.results.set m.pos (some .done)
        s.endSettling = State.arbitrate
          (if results.all (·.isSome) then
            { done.plannerRests (some s.planner.intentNo) with
              flags := s.flags ||| BitVec.twoPow 19 17
              line := Line.refresh s.pins.lcd
                { s.line with
                  qOutcome := some
                    ⟨s.planner.intentNo, true, results.map (·.getD .skipped), if s.meas.fresh then none else some s.meas.vec⟩ } }
          else { done with planner := { s.planner with plan := some { p with results := results, concluded := p.concluded + 1 } } }))

/-- FALLBACK that fails, because its wait or its MAKE ran out, its MAKE was answered NAK, or no phase will do at its entry, leaves a rescue's connection DARK and a RECOVER
member with 10 s to wait, TRANSFER_FAILED and CONNECTION_DARK set, and the station held with a HOLD queued (R27, R29, R68, R69,
R72, R131, R101). -/
def Obligations.FailedFallbackLeavesDark : Prop :=
  ∀ (c : Instr) (m : MoveReq) (t : Phase) (s : State), s.pins.pornLow = false → s.engine.req = some (.move m) →
    ((c = .fallbackWaitLimit ∧ m.step = .fbWait t ∧ m.cycles = 0)
      ∨ (c = .closedTimeout ∧ m.step = .fbMake t ∧ m.cycles = 0)
      ∨ (c = .nak m.conn true ∧ m.step = .fbMake t)
      ∨ (m.fallsBackAt s.present c ∧ s.otherTarget m = none)) →
    m.rescue = true → s.mode = .active → (s.conn m.conn).member = none → s.nothingElse m.conn = true →
    exec c s = .next
      { s with
        conns := s.conns.modify m.conn fun x =>
          { x with note := none, st := .dark, cur := none, attempts := 0, member := some ⟨.recover, 10⟩ }
        meas := { s.meas with held := s.meas.held.modify m.conn fun h => { h with preMove := none } }
        engine := { s.engine with req := none }
        flags := s.flags ||| 0x00003
        planner := { s.planner with ownHold := max s.planner.ownHold s.conf.holdTime }
        line := Line.refresh s.pins.lcd
          { s.line with qHold := some (mergeHold s.line.qHold ⟨s.conf.holdTime, .darkConnection⟩) } }

/-- An inventory query sets its record by the answer, or leaves it FAULTED with MODULE_SILENT set when there is none; the next
configured connection is asked, and after the last the station enters LISTEN_ONLY with its timer at three report intervals,
where the arbiter looks for a due member (R33, R57, R60, R75, R170, R171). -/
def Obligations.InventoryQuerySetsItsRecord : Prop :=
  ∀ (i n : Nat) (s : State), s.pins.pornLow = false → s.pins.resetnLow = false → s.mode = .inventory →
    s.engine.req = some (.inventory i n) → (s.conn i).member = none →
    let asked (f : Conn → Conn) : State :=
      if i + 1 < s.conf.count then
        { s with
          conns := s.conns.modify i f
          engine := { s.engine with req := some (.inventory (i + 1) 5), invNext := i + 1 }
          out := .command (.query (i + 1)) :: s.out }
      else State.arbitrate
        { s with
          conns := s.conns.modify i f
          engine := { s.engine with req := none, invNext := i + 1 }
          station := { s.station with mode := .listenOnly, listenOnly := some (3 * s.conf.report) } }
    (∀ x : Phase,
      exec (.queryAnswer i (some x) true) s = .next
        (asked fun c =>
          { c with cur := some x, st := if s.allows i x then if 0 < c.dwell then .resting else .steady else .faulted }))
    ∧ exec (.queryAnswer i none true) s = .next
        (asked fun c => { c with st := .dark, cur := none, attempts := 0, member := some ⟨.recover, 0⟩ })
    ∧ (n = 0 →
        exec .queryTimeout s = .next
          { asked (fun c => c) with flags := (asked fun c => c).flags ||| BitVec.twoPow 19 2 })

/-- A release check sets its record by an answer that names a PRESENT phase or none, and by a silence ends with the connection still FAULTED and MODULE_SILENT set; the
connection leaves the recovery set unless it is found DARK (R34, R75). -/
def Obligations.ReleaseCheckSetsItsRecord : Prop :=
  ∀ (i n : Nat) (s : State), s.pins.pornLow = false → s.mode = .active ∨ s.mode = .listenOnly →
    s.engine.req = some (.check i n) → s.nothingElse i = true →
    let freed (f : Conn → Conn) : State :=
      { s with
        conns := s.conns.modify i fun c => f { c with releasePending := false, member := none }
        engine := { s.engine with req := none } }
    (∀ x : Phase, s.present x = true →
      exec (.queryAnswer i (some x) true) s = .next
        (freed fun c =>
          { c with cur := some x, st := if s.allows i x then if 0 < c.dwell then .resting else .steady else .faulted }))
    ∧ exec (.queryAnswer i none true) s = .next
        (freed fun c => { c with st := .dark, cur := none, attempts := 0, member := some ⟨.recover, 10⟩ })
    ∧ (n = 0 → (s.conn i).st = .faulted →
        exec .queryTimeout s = .next { freed (fun c => c) with flags := s.flags ||| BitVec.twoPow 19 2 })

/-- A recovery that finds or closes an allowed PRESENT phase succeeds; one that finds a path outside the allowed set, or whose MAKE closed
another phase than its target, leaves the connection FAULTED there; either way it leaves the recovery set. One whose QUERY names no
path holds a MAKE for the home phase, or for the first allowed PRESENT phase; with none PRESENT the attempt is not made and not
counted, and the member waits 10 s (R31, R73, R74). -/
def Obligations.RecoveryFindsOrClosesAPath : Prop :=
  ∀ (i n : Nat) (x : Phase) (s : State), s.pins.pornLow = false → s.mode = .active ∨ s.mode = .listenOnly →
    (s.engine.req = some (.recovery i .query n) → s.allows i x = true → s.present x = true → s.nothingElse i = true →
      exec (.queryAnswer i (some x) true) s = .next
        { s with
          conns := s.conns.modify i fun c =>
            { c with cur := some x, member := none, st := if 0 < c.dwell then .resting else .steady }
          engine := { s.engine with req := none } })
    ∧ (s.engine.req = some (.recovery i (.make x) n) → s.present x = true → s.nothingElse i = true →
      exec (.closed i x true) s = .next
        { s with
          conns := s.conns.modify i fun c =>
            { c with cur := some x, member := none, st := if 0 < c.dwell then .resting else .steady }
          engine := { s.engine with req := none } })
    ∧ (s.engine.req = some (.recovery i .query n) →
      ((s.present (s.homeOf i) = true ∧ x = s.homeOf i)
        ∨ (s.present (s.homeOf i) = false ∧ (Phase.all.find? fun y => s.allows i y && s.present y) = some x)) →
      exec (.queryAnswer i none true) s = .next
        { s with
          conns := s.conns.modify i fun c => { c with cur := none }
          engine := { s.engine with req := some (.recovery i (.wait x) 2) } })
    ∧ (s.nothingElse i = true →
      let freed (f : Conn → Conn) : State := { s with conns := s.conns.modify i f, engine := { s.engine with req := none } }
      let faulted (y : Phase) : State := freed fun c => { c with cur := some y, member := none, st := .faulted }
      (s.engine.req = some (.recovery i .query n) → s.allows i x = false →
        exec (.queryAnswer i (some x) true) s = .next (faulted x))
      ∧ (∀ y, s.engine.req = some (.recovery i (.make x) n) → y ≠ x → exec (.closed i y true) s = .next (faulted y))
      ∧ (s.engine.req = some (.recovery i .query n) → s.present (s.homeOf i) = false →
        (∀ y, s.allows i y = true → s.present y = false) →
        exec (.queryAnswer i none true) s = .next
          (freed fun c => { c with cur := none, member := c.member.map fun k => { k with retry := 10 } })))

/-- A recovery attempt fails when its QUERY is not answered, its wait runs out, or its MAKE is answered NAK or not at all: the attempts
rise by 1 and the next waits 10 s, and the third failure locks the connection with CONNECTION_DARK set (R31, R73). -/
def Obligations.FailedRecoveryCountsItsAttempt : Prop :=
  ∀ (c : Instr) (i n : Nat) (r : RecStep) (k : Member) (s : State), s.pins.pornLow = false →
    s.mode = .active ∨ s.mode = .listenOnly → s.engine.req = some (.recovery i r n) → s.nothingElse i = true →
    (s.conn i).st = .dark → (s.conn i).member = some k →
    ((∃ x, r = .wait x ∧ c = .recoveryWaitLimit ∧ n = 0)
      ∨ (∃ x, r = .make x ∧ c = .closedTimeout ∧ n = 0)
      ∨ (∃ x, r = .make x ∧ c = .nak i true)
      ∨ (r = .query ∧ c = .queryTimeout ∧ n = 0)) →
    let silent := if r = .query then s.flags ||| BitVec.twoPow 19 2 else s.flags
    exec c s = .next
      (if (s.conn i).attempts < 2 then
        { s with
          conns := s.conns.modify i fun x => { x with attempts := x.attempts + 1, member := some { k with retry := 10 } }
          engine := { s.engine with req := none }
          flags := silent }
      else
        { s with
          conns := s.conns.modify i fun x => { x with attempts := x.attempts + 1, st := .darkLocked, member := none }
          engine := { s.engine with req := none }
          flags := silent ||| BitVec.twoPow 19 0 })

/-- An answer that no outstanding command can receive, or whose check value is bad, is discarded without a trace (R57). -/
def Obligations.UnaskedAnswersAreDiscarded : Prop :=
  ∀ (i : Nat) (path : Option Phase) (x : Phase) (good : Bool) (s : State),
    let out := s.engine.req.bind Req.outstanding
    (¬(good = true ∧ out = some (.arm i)) →
      exec (.ready i path good) s = .next s ∧ exec (.notReady i good) s = .next s)
    ∧ (¬(good = true ∧ out = some (.break i)) → exec (.opened i good) s = .next s)
    ∧ (¬(good = true ∧ ∃ p, out = some (.make i p)) → exec (.closed i x good) s = .next s)
    ∧ (¬(good = true ∧ (out = some (.break i) ∨ ∃ p, out = some (.make i p))) → exec (.nak i good) s = .next s)
    ∧ (¬(good = true ∧ out = some (.query i)) → exec (.queryAnswer i path good) s = .next s)

/-- MAKE is sent for a connection only on an allowed phase and only while the table believes no path of its module closed, so that no
connection is ever commanded closed on two phases; the records of the state before are sound (R71). -/
def Obligations.MakeOnlyOnAllowedOpenConnection : Prop :=
  ∀ (c : Instr) (s t : State), s.Sound → exec c s = .next t →
    ∃ new : List Output, t.out = new ++ s.out
      ∧ ∀ i p, .command (.make i p) ∈ new → s.allows i p = true ∧ (s.conn i).cur = none ∧ (t.conn i).cur = none

/-! ### The switching budget (chapter 5) -/

/-- The allowance is P_max while OPEN, and while THROTTLED the monitoring maximum less the monitoring count, never below 0. A plan is no
longer than P_max and the allowance, and none is built when the allowance is 0; a plan move taken while it is below 1 is SKIPPED
without a word to its module; and every step from a sound state keeps the balancing starts of a monitoring window at or below the
maximum (R88). -/
def Obligations.AllowanceLimitsBalancingStarts : Prop :=
  (∀ s : State,
    (s.budget.throttled = false → s.allowance = s.conf.pMax)
    ∧ (s.budget.throttled = true → (s.allowance : Int) = max 0 ((s.conf.monMax : Int) - (s.budget.monCount : Int)))
    ∧ s.buildPlan.length ≤ min s.conf.pMax s.allowance
    ∧ (s.allowance = 0 → s.buildPlan = [])
    ∧ ∀ (pos : Nat) (m : Move), s.allowance < 1 → s.takePlanMove pos m = s.planResult pos .skipped)
  ∧ ∀ s t : State, s.Sound → s.MonitoringHeld → step s = .next t → t.MonitoringHeld

/-! ### Line access and frames (chapter 6) -/

/-- The carrier cancels a gap and freezes a running deferral, and a frame begins to be assembled where the part receives; its end
starts the awaited quiet gap, and the frame assembled has ended (R98, R104, R105, R108). A complete quiet gap leads on: in GAP a
deferral drawn from the head's range, HOLD and OUTCOME 0 to 3, INTENT 0 to 7, LOAD 0 to 15, is counted, and a draw of 0 starts the
transmission at once; in FROZEN the kept count is resumed (R104, R105). The model's own here: the cycle that completes a gap takes the
completion itself, so the row finds a complete gap only where none has been taken (log entry 16); and while no cycle events come the
row of a gap still running says that its nominal cycles have passed (log entry 3), and otherwise changes nothing (log entry 26). -/
def Obligations.CarrierAndGapMoveTheAccess : Prop :=
  (∀ s : State, s.pins.pornLow = false →
     (s.pins.lcd = false →
       exec .lcdActive s = .next
         { s with
           pins := { s.pins with lcd := true }
           line := { s.line with
             access := match s.line.access with
               | .gap _ => .gap none
               | .defer n | .frozen n _ => .frozen n none
               | .idle => .idle
               | .sending => .sending
             assembly := if s.mode.working = true ∧ s.line.access ≠ .sending then .underWay else .none } })
     ∧ (s.pins.lcd = true →
       exec .lcdInactive s = .next
         { s with
           pins := { s.pins with lcd := false }
           line := { s.line with
             access := match s.line.access with
               | .gap none => .gap (some 0)
               | .frozen n none => .frozen n (some 0)
               | a => a
             assembly := if s.line.assembly = .underWay then .ended else s.line.assembly } }))
  ∧ (∀ (k : Nat) (s : State), s.pins.pornLow = false → 2 ≤ k →
       (∀ h : FrameKind, s.line.access = .gap (some k) → s.line.head = some h →
         let range := match h with
           | .hold | .outcome => 3
           | .intent => 7
           | .load => 15
         s.drawValue range ≤ range
         ∧ (s.drawValue range ≠ 0 →
           exec .quietGap s = .next
             { s with line := { s.line with access := .defer (s.drawValue range) }, draws := s.draws + 1 })
         ∧ (s.drawValue range = 0 →
           exec .quietGap s = .next (State.startTransmission { s with draws := s.draws + 1 })))
       ∧ ∀ n : Nat, s.line.access = .frozen n (some k) →
         exec .quietGap s = .next { s with line := { s.line with access := .defer n } })
  ∧ ∀ (k : Nat) (s : State), s.pins.pornLow = false → k < 2 →
      s.line.access = .gap (some k) ∨ (∃ n, s.line.access = .frozen n (some k)) →
      exec .quietGap s = .next (if s.time.aligned = true ∧ s.time.ref ≠ none then s else s.cycledTimes (2 - k))

/-- A transmission that starts takes the head frame: a HOLD first, then a ripe OUTCOME, then an INTENT, then a LOAD; the frame leaves its
place and its bytes go out, and a frame being assembled is abandoned; with no head left the access is IDLE (R97, R98, R102, R105, R106).
A queued HOLD whose remaining time has come to 0 leaves the queue unsent (R97, R103). The model's own here: the cycle that brings a
deferral to 0 starts the transmission itself, so the row of its end finds a count of 0 only where none has been taken (log entry 16);
while no cycle events come the row says that the nominal cycles left have passed (log entry 3), and otherwise changes nothing (log
entry 26); and the tick removes a HOLD itself, so its row finds none (log entry 15). -/
def Obligations.DeferralEndSendsTheHeadFrame : Prop :=
  (∀ s : State, s.pins.pornLow = false →
     let l := s.line
     let sent (l' : Line) (f : Frame) : State :=
       { s with
         line := { l' with tx := some f, access := .sending, assembly := .none }
         out := .frame (frameBytes s.conf.feeder s.conf.address f) :: s.out }
     let starts (t : State) : Prop := s.startTransmission = t ∧ (l.access = .defer 0 → exec .deferralEnd s = .next t)
     let noOutcome := ∀ o, l.qOutcome = some o → o.vec = none
     (∀ h, l.qHold = some h → starts (sent { l with qHold := none } (.hold h)))
     ∧ (∀ o v, l.qHold = none → l.qOutcome = some o → o.vec = some v →
         starts (sent { l with qOutcome := none } (.outcome ⟨o.num, o.completed, o.results, v⟩)))
     ∧ (∀ b, l.qHold = none → noOutcome → l.qIntent = some b → starts (sent { l with qIntent := none } (.intent b)))
     ∧ (∀ b, l.qHold = none → noOutcome → l.qIntent = none → l.qLoad = some b →
         starts (sent { l with qLoad := none } (.load b)))
     ∧ (l.qHold = none → noOutcome → l.qIntent = none → l.qLoad = none → starts { s with line := { l with access := .idle } }))
  ∧ (∀ (n : Nat) (s : State), s.pins.pornLow = false → s.line.access = .defer (n + 1) →
       exec .deferralEnd s = .next (if s.time.aligned = true ∧ s.time.ref ≠ none then s else s.cycledTimes (n + 1)))
  ∧ (∀ (h : HoldBody) (s : State), s.pins.pornLow = false → s.line.qHold = some h →
       exec .holdRemainingEnd s = .next
         (if h.dur = 0 then { s with line := Line.refresh s.pins.lcd { s.line with qHold := none } } else s))

/-- A transmission completed frees the line: the access goes to GAP when a frame is left to send and to IDLE when none is. After the
own INTENT the planner begins its listen window and its own lifetime, with the peers' pending intents as its precedence list, and
then takes the events it noted, in the order they came, as AWAITING takes them, becoming held only if it still is (R106, R123,
R132, R134). -/
def Obligations.TransmissionCompleteFreesTheLine : Prop :=
  ∀ s : State, s.pins.pornLow = false → s.line.access = .sending →
    let freed : Line :=
      { s.line with
        tx := none
        access := if s.line.head.isSome then .gap (if s.pins.lcd then none else some 0) else .idle }
    ((∀ b, s.line.tx ≠ some (.intent b)) → exec .transmissionComplete s = .next { s with line := freed })
    ∧ (∀ b, s.line.tx = some (.intent b) → s.planner.st = .announcing → s.planner.intentNo = b.num →
        let awaiting : State :=
          { s with
            line := { s.line with tx := none }
            planner :=
              { s.planner with
                st := .awaiting
                announceT := none
                listenT := some (s.conf.listen + s.drawValue 1)
                lifetimeT := some s.conf.lifetime
                noted := []
                prec := s.nbrs.filterMap fun e =>
                  e.bind fun x => if x.fresh then x.intent.map fun i => ⟨x.addr, i.num⟩ else none }
            draws := s.draws + 1 }
        let noted (t : State) (n : Noted) : State :=
          if t.planner.st = .awaiting then
            match n with
            | .peerIntent => t.recheck
            | .becameHeld => if t.isHeld then t.withdraw else t
            | .phaseLoss => t.withdraw
          else t
        let t := s.planner.noted.foldl noted awaiting
        exec .transmissionComplete s = .next
          { t with line := Line.refresh s.pins.lcd { t.line with access := .idle } })

/-- A frame formed by the rules passes validation at every station of its feeder, with its source and its contents, and at no station
of another feeder (R92, R93, R95 to R97, R99, R187, R188). -/
def Obligations.LegalFrameValidates : Prop :=
  ∀ (feeder other : Word16) (addr : Nat) (f : Frame), 1 ≤ addr → addr ≤ 250 → f.legal = true →
    validateFrame feeder (frameBytes feeder addr f) = some (addr, f)
    ∧ (other ≠ feeder → validateFrame other (frameBytes feeder addr f) = none)

/-! ### The neighbour table (chapter 7) -/

/-- A valid frame from a known peer refreshes its entry and is stored by its kind. The planner is IDLE and its precedence list empty, so
the notices end there (R98, R100, R110, R113 to R117). That a frame row given while the carrier is still there takes the end of
the carrier with it is the model's reading (log entry 17). -/
def Obligations.KnownPeerFrameIsStored : Prop :=
  ∀ (bytes : List Byte) (addr k : Nat) (e : Entry) (s : State), s.pins.pornLow = false → s.frameArriving = true →
    addr ≠ s.conf.address → s.slotOf addr = some k → s.slot k = some e → s.planner.st = .idle → s.planner.prec = [] →
    let stored (e' : Entry) : State := { s.afterFrame with nbrs := s.nbrs.set k (some { e' with age := 0, fresh := true }) }
    let cleared (n : Byte) := if e.intent.map (·.num) = some n then none else e.intent
    (∀ b, validateFrame s.conf.feeder bytes = some (addr, .load b) →
      exec (.loadFrame bytes) s = .next
        (stored
          { e with
            vec := some b.vec
            info := some ⟨b.counts, b.stale, b.throttled, b.executing⟩
            last := b.last
            concluded := b.concluded
            intent := match b.last with
              | some n => cleared n
              | none => e.intent }))
    ∧ (∀ b, validateFrame s.conf.feeder bytes = some (addr, .intent b) →
      exec (.intentFrame bytes) s = .next
        (stored { e with intent := some ⟨b.num, b.moves, b.life⟩, concluded := 0 }))
    ∧ (∀ b, validateFrame s.conf.feeder bytes = some (addr, .outcome b) →
      exec (.outcomeFrame bytes) s = .next
        (stored { e with vec := some b.vec, last := some b.num, intent := cleared b.num }))
    ∧ (∀ b, validateFrame s.conf.feeder bytes = some (addr, .hold b) →
      exec (.holdFrame bytes) s = .next
        { stored
            { e with
              hold := some (match e.hold with
                | none => ⟨b.dur, b.reason⟩
                | some h => if b.dur < h.left then h else ⟨b.dur, b.reason⟩) } with
          flags := s.flags ||| BitVec.twoPow 19 10 })

/-- A valid frame from an unknown peer takes the lowest empty slot with a new entry; with every slot taken it replaces the oldest STALE
entry, the lowest of equals; and with every slot FRESH it is ignored and NEIGHBOUR_TABLE_FULL set (R111, R112). The planner is
IDLE, so the notices end there. A frame that fails a step of validation leaves no trace but the end of its carrier, and a valid
one from the station's own address only sets ADDRESS_CLASH (R99, R100). That a frame row takes the end of the carrier with it, and
that its bytes alone say what it is, is the model's reading (log entry 17). -/
def Obligations.UnknownPeersClashesAndBadFrames : Prop :=
  (∀ (c : Instr) (bytes : List Byte) (addr : Nat) (f : Frame) (s : State), s.pins.pornLow = false → s.frameArriving = true →
     c = .loadFrame bytes ∨ c = .intentFrame bytes ∨ c = .outcomeFrame bytes ∨ c = .holdFrame bytes →
     addr ≠ s.conf.address → s.slotOf addr = none → validateFrame s.conf.feeder bytes = some (addr, f) →
     s.planner.st = .idle → s.planner.prec = [] →
     let entry : Entry := match f with
       | .load b =>
         ⟨addr, true, 0, some b.vec, some ⟨b.counts, b.stale, b.throttled, b.executing⟩, b.last, b.concluded, none, none⟩
       | .intent b => ⟨addr, true, 0, none, none, none, 0, some ⟨b.num, b.moves, b.life⟩, none⟩
       | .outcome b => ⟨addr, true, 0, some b.vec, none, some b.num, 0, none, none⟩
       | .hold b => ⟨addr, true, 0, none, none, none, 0, none, some ⟨b.dur, b.reason⟩⟩
     let stored (k : Nat) : State :=
       { s.afterFrame with
         nbrs := s.nbrs.set k (some entry)
         flags := match f with
           | .hold _ => s.flags ||| BitVec.twoPow 19 10
           | .load _ | .intent _ | .outcome _ => s.flags }
     (∀ k, s.nbrs[k]? = some none → (∀ j < k, s.nbrs[j]? ≠ some none) → exec c s = .next (stored k))
     ∧ (∀ k old, (∀ x ∈ s.nbrs, x ≠ none) → s.nbrs[k]? = some (some old) → old.fresh = false →
         (∀ j e, s.nbrs[j]? = some (some e) → e.fresh = false → e.age < old.age ∨ (e.age = old.age ∧ k ≤ j)) →
         exec c s = .next (stored k))
     ∧ ((∀ x ∈ s.nbrs, ∃ e, x = some e ∧ e.fresh = true) →
         exec c s = .next { s.afterFrame with flags := s.flags ||| BitVec.twoPow 19 8 }))
  ∧ (∀ (bytes : List Byte) (s : State), s.pins.pornLow = false → s.frameArriving = true →
       (validateFrame s.conf.feeder bytes = none → exec (.discardedFrame bytes) s = .next s.afterFrame)
       ∧ ∀ f, validateFrame s.conf.feeder bytes = some (s.conf.address, f) →
         ∀ c, c = .loadFrame bytes ∨ c = .intentFrame bytes ∨ c = .outcomeFrame bytes ∨ c = .holdFrame bytes →
           exec c s = .next { s.afterFrame with flags := s.flags ||| BitVec.twoPow 19 3 })

/-- The rows of the ends that the tick takes, for an end it has left. The sampling window begins again with count 0, and so does the
monitoring window; the throttle expiry returns the budget to OPEN and leaves the sampling window running (R83, R86, R87). An entry that
has reached its stale age keeps only its address, age and last concluded number; one at its forget age leaves its slot; a lifetime and
a hold that have run out are cleared. A pending intent cleared and an entry gone leave the precedence list, which in HELD may release
the planner: here it is not HELD (R117 to R121, R135). In the model the tick itself takes these ends, and the rows find nothing left
after it: of the table in log entry 1, of the budget in log entry 15; StepLeavesNoEndUntaken and StepKeepsNeighbourTableSound say so. -/
def Obligations.RowsTakeEndsTheTickLeft : Prop :=
  (∀ s : State, s.pins.pornLow = false →
    exec .samplingWindowEnd s = .next
      (if s.budget.running = true ∧ s.budget.sampLeft = 0 then
        { s with budget := { s.budget with sampCount := 0, sampLeft := s.conf.sampling } }
      else s)
    ∧ exec .monitoringWindowEnd s = .next
      (if s.budget.throttled = true ∧ s.budget.monLeft = 0 then
        { s with budget := { s.budget with monCount := 0, monLeft := s.conf.monitoring } }
      else s)
    ∧ exec .throttleExpiry s = .next
      (if s.budget.throttled = true ∧ s.budget.throttleLeft = 0 then
        { s with budget := { s.budget with throttled := false, sampCount := 0, monLeft := 0, monCount := 0 } }
      else s))
  ∧ ∀ (k : Nat) (e : Entry) (s : State), s.pins.pornLow = false → s.slot k = some e → s.planner.st ≠ .held →
    let gone := s.planner.prec.filter fun x => !(x.addr == e.addr)
    (e.fresh = true → 3 * s.conf.report ≤ e.age →
      exec (.staleAge k) s = .next
        { s with
          nbrs := s.nbrs.set k (some ⟨e.addr, false, e.age, none, none, e.last, 0, none, none⟩)
          planner := { s.planner with prec := gone } })
    ∧ (10 * s.conf.report ≤ e.age →
      exec (.forgetAge k) s = .next { s with nbrs := s.nbrs.set k none, planner := { s.planner with prec := gone } })
    ∧ (∀ i, e.fresh = true → e.intent = some i → i.life = 0 →
      exec (.intentLifetimeEnd k) s = .next
        { s with
          nbrs := s.nbrs.set k (some { e with intent := none })
          planner := { s.planner with
            prec := s.planner.prec.filter fun x => !(x.addr == e.addr && x.num == i.num) } })
    ∧ (∀ h, e.fresh = true → e.hold = some h → h.left = 0 →
      exec (.peerHoldEnd k) s = .next { s with nbrs := s.nbrs.set k (some { e with hold := none }) })

/-! ### The balance computation (chapter 3) -/

/-- U is half the sum of the squared differences, exactly: twice U is that sum, U equals the second form of the rule, it stays within
its bound for components within ±65535, and it is 0 exactly when the components are equal (R40). The neutral estimate is the
largest integer whose square is at or below U; the views' components stay within ±65535, every estimate of a vector with such
components is at most 131070, and that bound is reached (R41). What the estimates are taken of: the feeder view is the local vector
with the vectors of the FRESH entries that are not marked measurement-stale, each component summed exactly and then saturated (R37);
the projected view is the feeder view with the moves of those entries' pending intents from the concluded count on, applied in slot
order and list order, each component saturated after each move (R38, R39). -/
def Obligations.NeutralEstimateIsExactRootDown : Prop :=
  (∀ v : Vec,
     2 * quantityU v = (v.a - v.b) ^ 2 + (v.b - v.c) ^ 2 + (v.c - v.a) ^ 2
     ∧ quantityU v = v.a ^ 2 + v.b ^ 2 + v.c ^ 2 - v.a * v.b - v.b * v.c - v.c * v.a
     ∧ 0 ≤ quantityU v
     ∧ (within 65535 v.a = true → within 65535 v.b = true → within 65535 v.c = true → quantityU v ≤ 17179344900)
     ∧ (quantityU v = 0 ↔ v.a = v.b ∧ v.b = v.c))
  ∧ (∀ v : Vec, (neutral v : Int) ^ 2 ≤ quantityU v ∧ quantityU v < ((neutral v : Int) + 1) ^ 2)
  ∧ (∀ (s : State) (p : Phase),
       within 65535 (s.feederView.get p) = true ∧ within 65535 (s.projectedView.get p) = true)
  ∧ (∀ v : Vec, within 65535 v.a = true → within 65535 v.b = true → within 65535 v.c = true → neutral v ≤ 131070)
  ∧ neutral ⟨65535, -65535, 65535⟩ = 131070
  ∧ ∀ s : State,
      let saturated (x : Int) : Int := max (-65535) (min 65535 x)
      let counts (e : Entry) : Bool := e.fresh && e.info.all fun x => !x.stale
      let moves (x : Option Entry) : List FMove :=
        match x with
        | some e => if counts e then ((e.intent.map fun i => i.moves.drop e.concluded).getD []) else []
        | none => []
      let applied (w : Vec) (m : FMove) : Vec :=
        let v := w.set m.src (w.get m.src - m.cur)
        (v.set m.dst (v.get m.dst + m.cur)).map saturated
      (∀ p : Phase,
        s.feederView.get p = saturated (s.meas.vec.get p
          + (s.nbrs.map fun x =>
              match x with
              | some e => if counts e then ((e.vec.map fun v => v.get p).getD 0) else 0
              | none => 0).sum))
      ∧ s.projectedView = (s.nbrs.flatMap moves).foldl applied s.feederView

/-- A plan holds at most the smaller of P_max and the allowance; no two moves name one connection; and each move is of a MOVABLE,
STEADY, configured connection, from its PRESENT current phase to another allowed PRESENT phase, with its held reading of at
least the minimum movable current, measured and not saturated, and within the rating of its way on the target, the way current
there adjusted by the earlier moves of the plan on the same way (R44, R45, R47, R49). -/
def Obligations.PlanMovesAreDistinctCandidates : Prop :=
  ∀ s : State,
    s.buildPlan.length ≤ s.conf.pMax ∧ s.buildPlan.length ≤ s.allowance
    ∧ (s.buildPlan.map (·.conn)).Nodup
    ∧ (∀ (k : Nat) (m : Move), s.buildPlan[k]? = some m → s.wayOf m.conn < s.meas.ways.length →
        let earlier := (s.buildPlan.take k).filter fun x => s.wayOf x.conn == s.wayOf m.conn
        let w := (wayVec s.meas.ways (s.wayOf m.conn)).get m.dst
          + (earlier.map fun x => (if x.dst = m.dst then x.cur else 0) - (if x.src = m.dst then x.cur else 0)).sum
        (w + m.cur).natAbs ≤ s.rating (s.wayOf m.conn))
    ∧ ∀ m ∈ s.buildPlan,
      s.configured m.conn = true ∧ s.attrOf m.conn = .movable ∧ (s.conn m.conn).st = .steady
        ∧ (s.conn m.conn).cur = some m.src ∧ s.present m.src = true ∧ m.src ≠ m.dst ∧ s.allows m.conn m.dst = true
        ∧ s.present m.dst = true ∧ m.cur = (s.held m.conn).value ∧ (s.held m.conn).saturated = false
        ∧ (s.held m.conn).unmeasured = false ∧ s.conf.minMove ≤ m.cur.natAbs

/-- The gain of a move is N of the working view less N of that view with the move applied and each component saturated, within ±131070,
and moves that change U differently can have one gain (R46). Each step of plan building selects, among the candidates not yet in the
plan, one of the highest gain, and among those that share it the smaller current, then the lower connection index, then the earlier
target (R48); it selects none only when there is no candidate; and the first move of a plan is the first step's selection, its gain
at or above the gain floor. -/
def Obligations.StepSelectsTheBestGain : Prop :=
  (∀ (w : Vec) (p q : Phase) (c : Int), p ≠ q →
     gain w p q c
       = (neutral w : Int)
         - (neutral (((w.set p (w.get p - c)).set q (w.get q + c)).map fun x => max (-65535) (min 65535 x)) : Int)
     ∧ ((∀ r, within 65535 (w.get r) = true) → -131070 ≤ gain w p q c ∧ gain w p q c ≤ 131070))
  ∧ (∃ (w : Vec) (c d : Int), quantityU (applyMove w .A .B c) ≠ quantityU (applyMove w .A .B d)
       ∧ gain w .A .B c = gain w .A .B d)
  ∧ (∀ (s : State) (w : Vec) (ways : List Vec) (plan : List Move),
       let open' (i : Nat) (p q : Phase) : Prop :=
         i < 32 ∧ (plan.all fun m => m.conn != i) = true ∧ s.candidate ways i p q = true
       (s.bestCandidate w ways plan = none → ∀ i p q, ¬open' i p q)
       ∧ ∀ x : Found, s.bestCandidate w ways plan = some x →
         open' x.move.conn x.move.src x.move.dst
         ∧ x.move.cur = (s.held x.move.conn).value
         ∧ x.gain = gain w x.move.src x.move.dst x.move.cur
         ∧ ∀ (i : Nat) (p q : Phase), open' i p q →
           let c := (s.held i).value
           gain w p q c < x.gain
             ∨ (gain w p q c = x.gain ∧ (x.move.cur.natAbs < c.natAbs
                 ∨ (x.move.cur.natAbs = c.natAbs
                   ∧ (x.move.conn < i ∨ (x.move.conn = i ∧ (phaseCode x.move.dst).toNat ≤ (phaseCode q).toNat))))))
  ∧ ∀ (s : State) (m : Move) (rest : List Move), s.buildPlan = m :: rest →
      ∃ x : Found, s.bestCandidate s.projectedView s.meas.ways [] = some x ∧ x.move = m
        ∧ (s.conf.gainFloor : Int) ≤ x.gain

/-! ### Coordination of moves (chapter 8) -/

/-- The evaluation timer starts afresh at its expiry; an evaluation that yields a plan announces it under the next intent number, one
that yields none changes nothing more, and while held or STALE or not IDLE none is taken (R126 to R129). -/
def Obligations.EvaluationExpiryAnnouncesThePlan : Prop :=
  ∀ s : State, s.pins.pornLow = false → s.planner.evalT = some 0 →
    exec .evaluationTimerExpiry s = .next
      (if s.mode = .active ∧ s.planner.st = .idle ∧ s.isHeld = false ∧ s.meas.fresh = true then s.evaluated
       else
        { s with
          planner := { s.planner with evalT := some (s.conf.evalInt + s.drawValue (s.conf.evalInt / 4)) }
          draws := s.draws + 1 })

/-- At each expiry of the report timer a LOAD of the record snapshot is offered, its flags as they stand, and the timer is started with
a fresh draw of 0 to 2 s (R93, R94, R147). The announce limit takes an INTENT still queued out of the queue, with ANNOUNCE_EXPIRED
set and the planner at rest under its old last concluded number; an INTENT already on its way is waited for (R103, R133). -/
def Obligations.ReportAndAnnounceExpiries : Prop :=
  (∀ s : State, s.pins.pornLow = false → s.mode = .active → s.planner.reportT = some 0 →
     let k := s.line.snap
     exec .reportTimerExpiry s = .next
       { s with
         line := Line.refresh s.pins.lcd
           { s.line with
             qLoad := some
               { vec := k.vec
                 counts := k.counts
                 executing := if s.meas.fresh then k.executing else s.planner.st == .executing
                 concluded := if s.meas.fresh then k.concluded else s.planner.progress
                 last := if s.meas.fresh then k.last else s.planner.last
                 stale := !s.meas.fresh
                 throttled := s.budget.throttled } }
         planner := { s.planner with reportT := some (s.conf.report + s.drawValue 2) }
         draws := s.draws + 1 })
  ∧ (∀ s : State, s.pins.pornLow = false → s.mode = .active → s.planner.st = .announcing → s.planner.announceT = some 0 →
       (s.line.qIntent ≠ none →
         exec .announceLimitExpiry s = .next
           { s.plannerRests s.planner.last with
             line := Line.refresh s.pins.lcd { s.line with qIntent := none }
             flags := s.flags ||| BitVec.twoPow 19 9 })
       ∧ (∀ b, s.line.qIntent = none → s.line.tx = some (.intent b) →
         exec .announceLimitExpiry s = .next { s with planner := { s.planner with announceT := none } }))

/-- The end of the listen window: with peers in precedence the planner is HELD; with none a recheck releases it to EXECUTING, cut to the
moves still good, where the arbiter looks at its sources, or withdraws it with every move SKIPPED (R50, R51, R60, R96, R135 to R138).
The recheck keeps the leading moves that are candidates with their held readings, the way currents adjusted by the moves kept before,
and whose gain, against the projected view with those moves applied, is at or above the gain floor; it stops at the first that is not
(R44, R45, R46, R50). That the kept moves adjust the way currents by their held readings is the model's reading (log entry 32). A planner still HELD when its own intent's lifetime ends withdraws, and the end of an own hold
changes no planner state (R130, R137, R139). That the row of an own hold's end changes nothing at all, the tick having brought it
to 0, is the model's reading (log entry 25). -/
def Obligations.ListenAndLifetimeEnds : Prop :=
  (∀ (pl : Plan) (s : State), s.pins.pornLow = false → s.mode = .active → s.planner.st = .awaiting →
     s.planner.listenT = some 0 → s.planner.plan = some pl →
     exec .listenTimerExpiry s = .next
       (if s.planner.prec ≠ [] then { s with planner := { s.planner with st := .held, listenT := none } } else s.released pl))
  ∧ (∀ (moves : List Move) (s : State), (∀ m ∈ moves, s.wayOf m.conn < s.meas.ways.length) →
       let cur (m : Move) : Int := (s.held m.conn).value
       let kept (j : Nat) (m : Move) : Prop :=
         let onWay := (moves.take j).filter fun x => s.wayOf x.conn == s.wayOf m.conn
         let way := (wayVec s.meas.ways (s.wayOf m.conn)).get m.dst
           + (onWay.map fun x => (if x.dst = m.dst then cur x else 0) - (if x.src = m.dst then cur x else 0)).sum
         let view := (moves.take j).foldl (fun w x => applyMove w x.src x.dst (cur x)) s.projectedView
         s.configured m.conn = true ∧ s.attrOf m.conn = .movable ∧ (s.conn m.conn).st = .steady
           ∧ (s.conn m.conn).cur = some m.src ∧ s.present m.src = true ∧ m.src ≠ m.dst ∧ s.allows m.conn m.dst = true
           ∧ s.present m.dst = true ∧ (s.held m.conn).saturated = false ∧ (s.held m.conn).unmeasured = false
           ∧ s.conf.minMove ≤ (cur m).natAbs ∧ (way + cur m).natAbs ≤ s.rating (s.wayOf m.conn)
           ∧ (s.conf.gainFloor : Int) ≤ gain view m.src m.dst (cur m)
       s.recheckCount moves ≤ moves.length
       ∧ (∀ (j : Nat) (m : Move), j < s.recheckCount moves → moves[j]? = some m → kept j m)
       ∧ ∀ m : Move, moves[s.recheckCount moves]? = some m → ¬kept (s.recheckCount moves) m)
  ∧ (∀ (pl : Plan) (s : State), s.pins.pornLow = false →
       (s.mode = .active → s.planner.st = .held → s.planner.lifetimeT = some 0 → s.planner.plan = some pl →
         exec .ownLifetimeExpiry s = .next (s.withdrawn pl))
       ∧ exec .ownHoldEnd s = .next s)

/-- Becoming held and a phase loss find an IDLE planner unchanged, take a queued INTENT back, note themselves once it is on its way,
withdraw an AWAITING or HELD planner, and in EXECUTING cut every position not taken, which concludes the plan when no plan move is
in flight (R132, R137, R141, R142, R144, R145). A peer's INTENT stored rebuilds a queued one under the next number, or drops it
when no plan results; in AWAITING and HELD it makes a recheck, and in IDLE and EXECUTING nothing (R136, R140). A frame that hands
these notices stores its contents first (R117, R121, R130). The OUTCOME of the last peer in precedence releases a HELD planner to a
recheck, and with a plan left to EXECUTING, where the arbiter looks at its sources (R115, R135, R138). -/
def Obligations.PlannerTakesEventsByItsState : Prop :=
  (∀ (s : State) (n : Noted) (f : State → State), s.mode = .active →
     (n = .becameHeld ∧ f = State.becomesHeld) ∨ (n = .phaseLoss ∧ f = State.plannerPhaseLoss) →
     (s.planner.st = .idle → f s = s)
     ∧ (s.planner.st = .announcing → s.line.qIntent ≠ none →
         f s = { s.plannerRests s.planner.last with line := Line.refresh s.pins.lcd { s.line with qIntent := none } })
     ∧ (∀ b, s.planner.st = .announcing → s.line.qIntent = none → s.line.tx = some (.intent b) →
         f s = { s with planner := { s.planner with noted := s.planner.noted ++ [n] } })
     ∧ ∀ p : Plan, s.planner.plan = some p →
         (s.planner.st = .awaiting ∨ s.planner.st = .held → f s = s.withdrawn p)
         ∧ (s.planner.st = .executing → p.results.length = p.moves.length → p.kept = p.moves.length →
             ((∀ m : MoveReq, s.engine.req = some (.move m) → m.rescue = true) →
               f s =
                 { s.plannerRests (some s.planner.intentNo) with
                   flags := s.flags ||| BitVec.twoPow 19 17
                   line := Line.refresh s.pins.lcd
                     { s.line with
                       qOutcome := some
                         ⟨s.planner.intentNo, true, p.results.map (·.getD .skipped),
                           if s.meas.fresh then none else some s.meas.vec⟩ } })
             ∧ ∀ m : MoveReq, s.engine.req = some (.move m) → m.rescue = false →
                 f s =
                   { s with
                     planner :=
                       { s.planner with
                         plan := some
                           { p with
                             results := p.results.mapIdx fun k x => if k = m.pos then x else some (x.getD .skipped) } } }))
  ∧ (∀ s : State, s.mode = .active →
       (s.planner.st = .idle ∨ s.planner.st = .executing → s.onPeerIntent = s)
       ∧ (s.planner.st = .announcing → s.line.qIntent ≠ none →
           let bare : Line := Line.refresh s.pins.lcd { s.line with qIntent := none }
           s.onPeerIntent =
             if s.meas.fresh = true ∧ s.buildPlan ≠ [] then
               { s with
                 planner :=
                   { s.planner with
                     intentNo := s.planner.intentNo + 1
                     plan := some ⟨s.buildPlan, s.buildPlan.length, List.replicate s.buildPlan.length none, 0⟩
                     announceT := some s.conf.announce }
                 line := Line.refresh s.pins.lcd
                   { bare with
                     qIntent := some
                       ⟨s.planner.intentNo + 1, s.conf.lifetime, s.buildPlan.map fun m => ⟨m.src, m.dst, m.cur⟩⟩ } }
             else { s.plannerRests s.planner.last with line := bare })
       ∧ (∀ b, s.planner.st = .announcing → s.line.qIntent = none → s.line.tx = some (.intent b) →
           s.onPeerIntent = { s with planner := { s.planner with noted := s.planner.noted ++ [.peerIntent] } })
       ∧ ∀ p : Plan, s.planner.plan = some p → s.planner.st = .awaiting ∨ s.planner.st = .held →
           s.onPeerIntent = if s.recheckCount (p.moves.take p.kept) = 0 then s.withdrawn p else s.cutTo p)
  ∧ ∀ (bytes : List Byte) (addr k : Nat) (e : Entry) (s : State), s.pins.pornLow = false → s.mode = .active →
      s.frameArriving = true → addr ≠ s.conf.address → s.slotOf addr = some k → s.slot k = some e →
      let stored (e' : Entry) : State := { s.afterFrame with nbrs := s.nbrs.set k (some { e' with age := 0, fresh := true }) }
      (∀ b, validateFrame s.conf.feeder bytes = some (addr, .intent b) → e.intent = none →
        exec (.intentFrame bytes) s = .next
          (stored { e with intent := some ⟨b.num, b.moves, b.life⟩, concluded := 0 }).onPeerIntent)
      ∧ (∀ b, validateFrame s.conf.feeder bytes = some (addr, .hold b) → s.isHeld = false →
        exec (.holdFrame bytes) s = .next
          (State.becomesHeld
            { stored { e with hold := some ⟨b.dur, b.reason⟩ } with flags := s.flags ||| BitVec.twoPow 19 10 }))
      ∧ ∀ (b : OutcomeBody) (p : Plan), validateFrame s.conf.feeder bytes = some (addr, .outcome b) → s.planner.st = .held →
        s.planner.prec = [⟨addr, b.num⟩] → s.planner.plan = some p →
        let t : State := stored
          { e with
            vec := some b.vec
            last := some b.num
            intent := if e.intent.map (·.num) = some b.num then none else e.intent }
        exec (.outcomeFrame bytes) s = .next (State.released { t with planner := { s.planner with prec := [] } } p)

/-- The listen-only timer's expiry leads to ACTIVE with a phase PRESENT: evaluation and report timers drawn, the budget's timers started
the first time, the overrides closed. With none PRESENT it leads to BLACKOUT (R82, R107, R127, R146, R147, R171 to R174). -/
def Obligations.ListenOnlyEndsInActiveOrBlackout : Prop :=
  ∀ s : State, s.pins.pornLow = false → s.mode = .listenOnly → s.station.listenOnly = some 0 → s.engine.req = none →
    s.dueMember = none → s.engine.rescue = [] → s.planner.st = .idle →
    exec .listenOnlyTimerExpiry s = .next
      (if s.present .A = true ∨ s.present .B = true ∨ s.present .C = true then
        { s with
          station := { s.station with mode := .active, listenOnly := none, overridesOpen := false }
          planner :=
            { s.planner with
              evalT := some (s.conf.evalInt + Config.draw s.draws % (s.conf.evalInt / 4 + 1))
              reportT := some (s.conf.report + Config.draw (s.draws + 1) % 3) }
          draws := s.draws + 2
          budget :=
            if s.budget.running then s.budget else { s.budget with running := true, sampLeft := s.conf.sampling } }
      else
        { s with
          station := { s.station with mode := .blackout, listenOnly := none }
          line :=
            { s.line with
              qHold := none, qOutcome := none, qIntent := none, qLoad := none, access := .idle, tx := none }
          planner :=
            { s.planner with
              plan := none, noted := [], prec := [], evalT := none, reportT := none, announceT := none, listenT := none
              lifetimeT := none }
          engine := { s.engine with rescue := [], rescueDone := false } })

/-! ### Comparators and ALERT (chapter 9) -/

/-- An enabled comparator takes its new result, and its flag is set when the result turns true; a disabled one takes no result. In ACTIVE
an EVALUATE that fires gives an evaluation where one may be taken, and a HOLD lengthens the own hold, queues a HOLD frame and may
make the station held; outside ACTIVE no action is taken. The four are evaluated in index order at a record, with one evaluation
among them at most (R128, R131, R150 to R154). ALERT is inactive in LOADING, active in CONFIG_FAULT, and otherwise follows the
FAULT flags and the flags its mask enables (R159, R160). -/
def Obligations.ComparatorFiresAndAlertFollows : Prop :=
  (∀ (k : Nat) (d : CompDef) (taken : Bool) (s : State), k < 4 → s.conf.comps[k]? = some d →
     let x := s.sourceValue d.source
     let now := match d.cond with
       | .above => decide (x > d.value)
       | .below => decide (x < d.value)
       | .atOrAbove => decide (x ≥ d.value)
       | .atOrBelow => decide (x ≤ d.value)
     let fires := now = true ∧ s.comps.getD k false = false
     let evaluates := d.action = .evaluate ∧ s.mode = .active ∧ s.planner.st = .idle ∧ s.isHeld = false ∧ s.meas.fresh = true
     let t : State :=
       { s with
         comps := s.comps.set k now
         flags := if fires then s.flags ||| BitVec.twoPow 19 (13 + k) else s.flags }
     let held : State :=
       { t with
         planner := { s.planner with ownHold := max s.planner.ownHold s.conf.holdTime }
         line := Line.refresh s.pins.lcd
           { s.line with qHold := some (mergeHold s.line.qHold ⟨s.conf.holdTime, .comparator⟩) } }
     (s.compare taken k =
       if d.enable = false then s
       else if ¬fires then t
       else if evaluates ∧ taken = false then t.evaluated
       else if d.action = .hold ∧ s.mode = .active then
         if s.isHeld = true ∨ s.conf.holdTime = 0 then held else held.becomesHeld
       else t)
     ∧ (s.evaluatesAt k = true ↔ d.enable = true ∧ fires ∧ evaluates))
  ∧ (∀ s : State,
       let s1 := s.compare false 0
       let s2 := s1.compare (s.evaluatesAt 0) 1
       let s3 := s2.compare (s.evaluatesAt 0 || s1.evaluatesAt 1) 2
       s.compareAll = s3.compare (s.evaluatesAt 0 || s1.evaluatesAt 1 || s2.evaluatesAt 2) 3)
  ∧ ∀ s : State,
    (s.mode = .loading → s.alert = false) ∧ (s.mode = .configFault → s.alert = true)
    ∧ (s.mode.working = true →
        (s.alert = true ↔ ∃ f : Flag, s.flagSet f = true
          ∧ (f.code < 5 ∨ (s.conf.mask.getLsbD (f.code - 5) = true ∧ 5 ≤ f.code))))

/-! ### The service link (chapter 11) -/

/-- STATUS and IDENT are answered OK in every mode, with what R180 and R186 say they show; the revision letter is the part's own, and
unknown. READ CONNECTION shows a configured record field by field and zeros for one that is not; READ NEIGHBOUR shows an entry, with
its vector, counts and flags or none of the three, or zeros for an empty slot. Nothing but the receive state and the port changes
(R180, R181, R186, section 12.4). -/
def Obligations.ReadRequestsShowTheState : Prop :=
  (∀ s : State, s.pins.pornLow = false → s.svc.rx = .idle ∨ s.svc.rx = .receiving →
     let answered (kind : Byte) (data : List Byte) : State :=
       { s with svc := { s.svc with rx := .responding }, out := .response (responseBytes kind 0 data) :: s.out }
     exec (.status []) s = .next
       (answered 1
         ([s.mode.code, s.planner.st.code, bitAt s.budget.throttled 0, phaseCode? s.time.ref, phaseSetByte s.presentSet,
             bitAt s.meas.fresh 0]
           ++ bytes4 s.time.counter ++ bytes3 (neutral s.feederView) ++ bytes3 (neutral s.projectedView)
           ++ [bitAt s.isHeld 0 ||| bitAt s.station.overridesOpen 1 ||| bitAt s.svc.overrun 2,
             bitAt s.anyFault 0 ||| bitAt s.anyNotice 1 ||| bitAt s.anyCompletion 2]))
     ∧ ∃ letter : Byte, 65 ≤ letter.toNat ∧ letter.toNat ≤ 90
       ∧ exec (.ident []) s = .next
           (answered 11
             ([0x48, 0x12, letter] ++ match s.cfg with
               | some c => [natByte c.version, natByte c.address]
               | none => [0, 0])))
  ∧ (∀ (i : Byte) (s : State), s.pins.pornLow = false → s.svc.rx = .idle ∨ s.svc.rx = .receiving → s.mode.working = true →
       let answered (kind : Byte) (data : List Byte) : State :=
         { s with svc := { s.svc with rx := .responding }, out := .response (responseBytes kind 0 data) :: s.out }
       let c := s.conn i.toNat
       let h := s.held i.toNat
       (i.toNat < 32 →
         exec (.readConnection [i]) s = .next
           (answered 2
             (if s.configured i.toNat then
               [i, c.st.code,
                 attrCode (s.attrOf i.toNat) ||| bitAt (s.overrideOf i.toNat).isSome 2 ||| bitAt c.releasePending 3,
                 phaseSetByte (s.connCfg i.toNat).allowed, phaseCode (s.homeOf i.toNat), natByte (s.wayOf i.toNat),
                 phaseCode? c.cur]
               ++ natBytes c.dwell
               ++ [natByte c.attempts, memberCode c.member, natByte ((c.member.map (·.retry)).getD 0)]
               ++ intBytes h.value ++ [bitAt h.saturated 0 ||| bitAt h.unmeasured 1]
             else i :: List.replicate 14 0)))
       ∧ (i.toNat < 16 →
         (s.slot i.toNat = none →
           exec (.readNeighbour [i]) s = .next (answered 3 (i :: List.replicate 32 0)))
         ∧ ∀ e : Entry, s.slot i.toNat = some e → e.vec.isSome = e.info.isSome →
           exec (.readNeighbour [i]) s = .next
             (answered 3
               ([i, if e.fresh then 1 else 2, natByte e.addr,
                   bitAt e.vec.isSome 0 ||| bitAt e.last.isSome 1 ||| bitAt e.intent.isSome 2 ||| bitAt e.hold.isSome 3]
                 ++ natBytes e.age
                 ++ (match e.vec, e.info with
                   | some v, some x =>
                     vecBytes v ++ [natByte x.counts.a, natByte x.counts.b, natByte x.counts.c,
                       bitAt x.stale 0 ||| bitAt x.throttled 1 ||| bitAt x.executing 2]
                   | _, _ => List.replicate 10 0)
                 ++ [e.last.getD 0, natByte e.concluded]
                 ++ (match e.intent with
                   | none => List.replicate 12 0
                   | some x => [x.num, natByte x.life, natByte x.moves.length]
                       ++ ((x.moves.take 3).flatMap moveBytes ++ List.replicate (9 - 3 * x.moves.length) 0))
                 ++ match e.hold with
                   | none => [0, 0, 0]
                   | some x => natBytes x.left ++ [reasonCode x.reason]))))

/-- READ EVENTS shows the flags and in AUTO mode clears those it shows; CLEAR EVENTS clears the flags it names and the overrun indicator,
and a code above 18 makes it a bad request that clears nothing (R156, R157, R178, R182, R189). -/
def Obligations.EventRequestsClearFlags : Prop :=
  ∀ (codes : List Byte) (s : State), s.pins.pornLow = false → s.svc.rx = .idle ∨ s.svc.rx = .receiving →
    s.mode.working = true →
    exec (.readEvents []) s = .next
      { s with
        flags := if s.conf.manual then s.flags else 0
        svc := { s.svc with rx := .responding }
        out := .response (responseBytes 4 0 (bytes3 s.flags.toNat)) :: s.out }
    ∧ (codes.length ≤ 19 →
      ∃ t : State, exec (.clearEvents codes) s = .next t
        ∧ ((∀ b ∈ codes, b.toNat < 19) →
          t = { s with flags := t.flags, svc := { s.svc with rx := .responding, overrun := false },
                       out := .response (responseBytes 5 0 []) :: s.out }
          ∧ ∀ f : Flag, t.flagSet f = (s.flagSet f && !codes.contains (BitVec.ofNat 8 f.code)))
        ∧ (¬(∀ b ∈ codes, b.toNat < 19) →
          t = { s with svc := { s.svc with rx := .responding }, out := .response (responseBytes 5 1 []) :: s.out }))

/-- RELEASE of a FAULTED connection makes it a due CHECK member with release pending, once; of a DARK_LOCKED one, a due RECOVER member
with its attempts given back; the arbiter then looks at its sources, and the answer is OK. A connection in any other state, one in
INVENTORY, and an index not configured are NOT_APPLICABLE, and an index above 31 is a bad request (R34, R35, R183). -/
def Obligations.ReleaseJoinsTheRecoverySet : Prop :=
  ∀ (i : Byte) (s : State), s.pins.pornLow = false → s.svc.rx = .idle ∨ s.svc.rx = .receiving → s.mode.working = true →
    let c := s.conn i.toNat
    let answered (code : Byte) (t : State) : State :=
      { t with svc := { t.svc with rx := .responding }, out := .response (responseBytes 6 code []) :: t.out }
    exec (.release [i]) s = .next
      (if 31 < i.toNat then answered 1 s
       else if s.mode = .inventory ∨ s.configured i.toNat = false then answered 3 s
       else if c.st = .faulted then
        if c.releasePending then answered 0 s
        else answered 0 (State.arbitrate { s with conns := s.conns.modify i.toNat fun x =>
          { x with
            releasePending := true
            member := if x.member.map (·.kind) = some .check then x.member else some ⟨.check, 0⟩ } })
       else if c.st = .darkLocked then
        answered 0 (State.arbitrate { s with conns := s.conns.modify i.toNat fun x =>
          { x with
            st := .dark
            attempts := 0
            member := if x.member.map (·.kind) = some .recover then x.member else some ⟨.recover, 0⟩ } })
       else answered 3 s)

/-- OVERRIDE writes its entry while the overrides are open and the connection is configured and not MOVING, and is answered LOCKED once
they are closed; LOCK closes them (R20, R36, R174, R183). A service HOLD of 10 to 600 s in ACTIVE lengthens the own hold, never
shortens it, and queues a HOLD; in another working mode it is NOT_APPLICABLE, and outside the range BAD_REQUEST; the planner is
IDLE there (R101, R131, R184, R189). -/
def Obligations.OverrideLockAndHoldRequests : Prop :=
  (∀ (i a : Byte) (attr : Attr) (s : State), s.pins.pornLow = false → s.svc.rx = .idle ∨ s.svc.rx = .receiving →
     s.mode.working = true →
     let answered (kind code : Byte) (t : State) : State :=
       { t with svc := { s.svc with rx := .responding }, out := .response (responseBytes kind code []) :: s.out }
     (i.toNat < 32 → codeAttr a = some attr →
       exec (.override [i, a]) s = .next
         (if s.station.overridesOpen = false then answered 7 2 s
          else if s.configured i.toNat = true ∧ (s.conn i.toNat).st ≠ .moving then
           answered 7 0 { s with station := { s.station with overrides := s.station.overrides.set i.toNat (some attr) } }
          else answered 7 3 s))
     ∧ exec (.lock []) s = .next (answered 8 0 { s with station := { s.station with overridesOpen := false } }))
  ∧ (∀ (hi lo : Byte) (s : State), s.pins.pornLow = false → s.svc.rx = .idle ∨ s.svc.rx = .receiving →
       s.mode.working = true → s.planner.st = .idle →
       let d := (bytesWord hi lo).toNat
       let answered (code : Byte) (t : State) : State :=
         { t with svc := { s.svc with rx := .responding }, out := .response (responseBytes 9 code []) :: s.out }
       exec (.hold [hi, lo]) s = .next
         (if d < 10 ∨ 600 < d then answered 1 s
          else if s.mode ≠ .active then answered 3 s
          else answered 0
           { s with
             planner := { s.planner with ownHold := max s.planner.ownHold d }
             line := Line.refresh s.pins.lcd { s.line with qHold := some (mergeHold s.line.qHold ⟨d, .service⟩) } }))

/-- A request answered anything but OK changes no state; a kind byte that names no request is BAD_REQUEST in every working mode; in
LOADING and CONFIG_FAULT everything but STATUS and IDENT is LOCKED (R169, R179, R189). -/
def Obligations.RefusedRequestsChangeNothing : Prop :=
  ∀ (kind : Byte) (payload : List Byte) (s : State),
    ((∀ data, (decideKind kind payload s).1 ≠ .ok data) → (decideKind kind payload s).2 = s)
    ∧ (s.mode.working = false → kind ≠ 1 → kind ≠ 11 → decideKind kind payload s = (.locked, s))
    ∧ (s.pins.pornLow = false → s.svc.rx = .idle ∨ s.svc.rx = .receiving → payload.length ≤ 19 →
        kind.toNat = 0 ∨ 11 < kind.toNat →
      exec (.unknownRequestKind kind payload) s = .next
        { s with
          svc := { s.svc with rx := .responding }
          out := .response (responseBytes kind (if s.mode.working then 1 else 2) []) :: s.out })

/-- How bytes after a start byte are received: a frame with a bad check value is forgotten; one whose bytes are not all there is being
received; one whose length exceeds 19 is malformed at that byte, and what follows it is ignored up to the next start byte, which
begins another frame. Too long a gap abandons a frame. While a response goes out a start byte sets the overrun indicator and
begins a frame to drop, whose end frees the receive state once the response has gone; a whole request come then is dropped
(R177, R178, R189). The model's own here: what the rows carry, and that OVERRUN is a start byte in every receive state (log entry
18); and a frame row that comes while a frame is being dropped (log entry 19). -/
def Obligations.ReceiveStateFollowsTheFrames : Prop :=
  ∀ (len : Byte) (bytes : List Byte) (s : State), s.pins.pornLow = false →
    let rx (r : Rx) : State := { s with svc := { s.svc with rx := r } }
    let dropped (more : Bool) : State := { s with svc := { s.svc with overrun := true, dropping := s.svc.dropping || more } }
    (s.svc.rx = .idle ∨ s.svc.rx = .receiving →
      (len.toNat ≤ 19 → bytes.length < len.toNat + 3 → exec (.malformedFrame (len :: bytes)) s = .next (rx .receiving))
      ∧ (len.toNat ≤ 19 → bytes.length = len.toNat + 3 → serviceFrame? (len :: bytes) = none →
          exec (.malformedFrame (len :: bytes)) s = .next (rx .idle))
      ∧ (19 < len.toNat → 0x7E ∉ bytes → exec (.malformedFrame (len :: bytes)) s = .next (rx .idle))
      ∧ ∀ skipped more, 19 < len.toNat → bytes = skipped ++ 0x7E :: more → 0x7E ∉ skipped →
          exec (.malformedFrame (len :: bytes)) s = exec (.malformedFrame more) s)
    ∧ (s.svc.rx = .responding →
      (len.toNat ≤ 19 → bytes.length < len.toNat + 3 → exec (.malformedFrame (len :: bytes)) s = .next (dropped true))
      ∧ (len.toNat ≤ 19 → bytes.length = len.toNat + 3 → exec (.malformedFrame (len :: bytes)) s = .next (dropped false))
      ∧ (19 < len.toNat → 0x7E ∉ bytes → exec (.malformedFrame (len :: bytes)) s = .next (dropped false))
      ∧ (bytes.length ≤ 19 → exec (.status bytes) s = .next (dropped false)))
    ∧ (s.svc.rx = .discarding →
      exec (.malformedFrame bytes) s = .next s
      ∧ exec .droppedFrameEnd s = .next { s with svc := { s.svc with rx := .idle, dropping := false } })
    ∧ exec .serviceByteGap s = .next
        (match s.svc.rx with
          | .idle | .receiving => rx .idle
          | .responding => { s with svc := { s.svc with dropping := false } }
          | .discarding => { s with svc := { s.svc with rx := .idle, dropping := false } })
    ∧ exec .overrun s = .next
        (match s.svc.rx with
          | .idle | .receiving => rx .receiving
          | .responding => { s with svc := { s.svc with overrun := true, dropping := true } }
          | .discarding => s)

/-! ### Invariants -/

/-- The station right after a power-on reset has every property the invariants keep. -/
def Obligations.ResetStateIsSound : Prop :=
  State.reset.CalmOutsideActive ∧ State.reset.Sound ∧ State.reset.TableSound ∧ State.reset.PhasesSound
    ∧ State.reset.MonitoringHeld ∧ State.reset.EndsTaken

/-- Every step from a sound state keeps the station quiet outside ACTIVE: queue empty, line IDLE, planner at rest, rescue list and mark clear (R77, R78,
R101, R107, R146). -/
def Obligations.StepKeepsCalmOutsideActive : Prop :=
  ∀ s t : State, s.Sound → s.CalmOutsideActive → step s = .next t → t.CalmOutsideActive

/-- Every step keeps the records and the request in flight sound together: each record is what its state allows, a connection is MOVING
exactly through the move in flight, the current phase follows the move's step, and every command goes to an allowed phase
(R17, R19, R23, R24, R29, R59, R71, R163). -/
def Obligations.StepKeepsRecordsSound : Prop :=
  ∀ s t : State, s.Sound → step s = .next t → t.Sound

/-- Every step keeps the neighbour table sound: sixteen slots, no address twice, never the own address; no step leaves it in the middle
of a tick, with a FRESH entry at its stale age, an entry at its forget age, or a lifetime or hold that has run out; and a STALE
entry has nothing left of its vector, flags, intent and hold (R100, R109 to R112, R118 to R121, R123). -/
def Obligations.StepKeepsNeighbourTableSound : Prop :=
  ∀ s t : State, s.TableSound → step s = .next t → t.TableSound

/-- Every step keeps the timebase and the phases sound: the reference is the first PRESENT phase, the MAINS source needs an aligned
reference, an unaligned counter reads 0, and a watch is timed exactly for a PRESENT phase (R2 to R8). -/
def Obligations.StepKeepsPhasesSound : Prop :=
  ∀ s t : State, s.PhasesSound → step s = .next t → t.PhasesSound

/-- Every step leaves no end untaken: from a state where none is, no step leaves a window of the budget, a throttle period or a queued
HOLD at a remaining of 0, a gap at its second cycle, a deferral at 0, a FRESH measurement at the age of 3, or a connection RESTING with
no dwell but for one a rescue has just left so; each of these ends with the tick or the cycle that brings it (R15, R28, R83, R86, R87, R103 to R105). -/
def Obligations.StepLeavesNoEndUntaken : Prop :=
  ∀ s t : State, s.EndsTaken → step s = .next t → t.EndsTaken
end

