-- ==== Sys2Proof/Laws/State.lean ====
section
/-! SUPPORT. One lemma for each field and each plain update of the state: what the update makes of that field. -/

namespace Sys2Proof.Machine

variable (s : State)

/-! ### State.setFlag -/

@[simp] theorem State.setFlag_pins (f : Flag) : (s.setFlag f).pins = s.pins := rfl
@[simp] theorem State.setFlag_station (f : Flag) : (s.setFlag f).station = s.station := rfl
@[simp] theorem State.setFlag_cfg (f : Flag) : (s.setFlag f).cfg = s.cfg := rfl
@[simp] theorem State.setFlag_time (f : Flag) : (s.setFlag f).time = s.time := rfl
@[simp] theorem State.setFlag_phases (f : Flag) : (s.setFlag f).phases = s.phases := rfl
@[simp] theorem State.setFlag_meas (f : Flag) : (s.setFlag f).meas = s.meas := rfl
@[simp] theorem State.setFlag_conns (f : Flag) : (s.setFlag f).conns = s.conns := rfl
@[simp] theorem State.setFlag_engine (f : Flag) : (s.setFlag f).engine = s.engine := rfl
@[simp] theorem State.setFlag_budget (f : Flag) : (s.setFlag f).budget = s.budget := rfl
@[simp] theorem State.setFlag_line (f : Flag) : (s.setFlag f).line = s.line := rfl
@[simp] theorem State.setFlag_nbrs (f : Flag) : (s.setFlag f).nbrs = s.nbrs := rfl
@[simp] theorem State.setFlag_planner (f : Flag) : (s.setFlag f).planner = s.planner := rfl
@[simp] theorem State.setFlag_comps (f : Flag) : (s.setFlag f).comps = s.comps := rfl
@[simp] theorem State.setFlag_flags (f : Flag) : (s.setFlag f).flags = s.flags ||| BitVec.twoPow 19 f.code := rfl
@[simp] theorem State.setFlag_svc (f : Flag) : (s.setFlag f).svc = s.svc := rfl
@[simp] theorem State.setFlag_draws (f : Flag) : (s.setFlag f).draws = s.draws := rfl
@[simp] theorem State.setFlag_out (f : Flag) : (s.setFlag f).out = s.out := rfl
@[simp] theorem State.setFlag_pending (f : Flag) : (s.setFlag f).pending = s.pending := rfl

/-! ### State.clearFlags -/

@[simp] theorem State.clearFlags_pins (m : BitVec 19) : (s.clearFlags m).pins = s.pins := rfl
@[simp] theorem State.clearFlags_station (m : BitVec 19) : (s.clearFlags m).station = s.station := rfl
@[simp] theorem State.clearFlags_cfg (m : BitVec 19) : (s.clearFlags m).cfg = s.cfg := rfl
@[simp] theorem State.clearFlags_time (m : BitVec 19) : (s.clearFlags m).time = s.time := rfl
@[simp] theorem State.clearFlags_phases (m : BitVec 19) : (s.clearFlags m).phases = s.phases := rfl
@[simp] theorem State.clearFlags_meas (m : BitVec 19) : (s.clearFlags m).meas = s.meas := rfl
@[simp] theorem State.clearFlags_conns (m : BitVec 19) : (s.clearFlags m).conns = s.conns := rfl
@[simp] theorem State.clearFlags_engine (m : BitVec 19) : (s.clearFlags m).engine = s.engine := rfl
@[simp] theorem State.clearFlags_budget (m : BitVec 19) : (s.clearFlags m).budget = s.budget := rfl
@[simp] theorem State.clearFlags_line (m : BitVec 19) : (s.clearFlags m).line = s.line := rfl
@[simp] theorem State.clearFlags_nbrs (m : BitVec 19) : (s.clearFlags m).nbrs = s.nbrs := rfl
@[simp] theorem State.clearFlags_planner (m : BitVec 19) : (s.clearFlags m).planner = s.planner := rfl
@[simp] theorem State.clearFlags_comps (m : BitVec 19) : (s.clearFlags m).comps = s.comps := rfl
@[simp] theorem State.clearFlags_flags (m : BitVec 19) : (s.clearFlags m).flags = s.flags &&& ~~~m := rfl
@[simp] theorem State.clearFlags_svc (m : BitVec 19) : (s.clearFlags m).svc = s.svc := rfl
@[simp] theorem State.clearFlags_draws (m : BitVec 19) : (s.clearFlags m).draws = s.draws := rfl
@[simp] theorem State.clearFlags_out (m : BitVec 19) : (s.clearFlags m).out = s.out := rfl
@[simp] theorem State.clearFlags_pending (m : BitVec 19) : (s.clearFlags m).pending = s.pending := rfl

/-! ### State.send -/

@[simp] theorem State.send_pins (o : Output) : (s.send o).pins = s.pins := rfl
@[simp] theorem State.send_station (o : Output) : (s.send o).station = s.station := rfl
@[simp] theorem State.send_cfg (o : Output) : (s.send o).cfg = s.cfg := rfl
@[simp] theorem State.send_time (o : Output) : (s.send o).time = s.time := rfl
@[simp] theorem State.send_phases (o : Output) : (s.send o).phases = s.phases := rfl
@[simp] theorem State.send_meas (o : Output) : (s.send o).meas = s.meas := rfl
@[simp] theorem State.send_conns (o : Output) : (s.send o).conns = s.conns := rfl
@[simp] theorem State.send_engine (o : Output) : (s.send o).engine = s.engine := rfl
@[simp] theorem State.send_budget (o : Output) : (s.send o).budget = s.budget := rfl
@[simp] theorem State.send_line (o : Output) : (s.send o).line = s.line := rfl
@[simp] theorem State.send_nbrs (o : Output) : (s.send o).nbrs = s.nbrs := rfl
@[simp] theorem State.send_planner (o : Output) : (s.send o).planner = s.planner := rfl
@[simp] theorem State.send_comps (o : Output) : (s.send o).comps = s.comps := rfl
@[simp] theorem State.send_flags (o : Output) : (s.send o).flags = s.flags := rfl
@[simp] theorem State.send_svc (o : Output) : (s.send o).svc = s.svc := rfl
@[simp] theorem State.send_draws (o : Output) : (s.send o).draws = s.draws := rfl
@[simp] theorem State.send_out (o : Output) : (s.send o).out = o :: s.out := rfl
@[simp] theorem State.send_pending (o : Output) : (s.send o).pending = s.pending := rfl

/-! ### State.drawn -/

@[simp] theorem State.drawn_pins : (s.drawn).pins = s.pins := rfl
@[simp] theorem State.drawn_station : (s.drawn).station = s.station := rfl
@[simp] theorem State.drawn_cfg : (s.drawn).cfg = s.cfg := rfl
@[simp] theorem State.drawn_time : (s.drawn).time = s.time := rfl
@[simp] theorem State.drawn_phases : (s.drawn).phases = s.phases := rfl
@[simp] theorem State.drawn_meas : (s.drawn).meas = s.meas := rfl
@[simp] theorem State.drawn_conns : (s.drawn).conns = s.conns := rfl
@[simp] theorem State.drawn_engine : (s.drawn).engine = s.engine := rfl
@[simp] theorem State.drawn_budget : (s.drawn).budget = s.budget := rfl
@[simp] theorem State.drawn_line : (s.drawn).line = s.line := rfl
@[simp] theorem State.drawn_nbrs : (s.drawn).nbrs = s.nbrs := rfl
@[simp] theorem State.drawn_planner : (s.drawn).planner = s.planner := rfl
@[simp] theorem State.drawn_comps : (s.drawn).comps = s.comps := rfl
@[simp] theorem State.drawn_flags : (s.drawn).flags = s.flags := rfl
@[simp] theorem State.drawn_svc : (s.drawn).svc = s.svc := rfl
@[simp] theorem State.drawn_draws : (s.drawn).draws = s.draws + 1 := rfl
@[simp] theorem State.drawn_out : (s.drawn).out = s.out := rfl
@[simp] theorem State.drawn_pending : (s.drawn).pending = s.pending := rfl

/-! ### State.modConn -/

@[simp] theorem State.modConn_pins (i : Nat) (f : Conn → Conn) : (s.modConn i f).pins = s.pins := rfl
@[simp] theorem State.modConn_station (i : Nat) (f : Conn → Conn) : (s.modConn i f).station = s.station := rfl
@[simp] theorem State.modConn_cfg (i : Nat) (f : Conn → Conn) : (s.modConn i f).cfg = s.cfg := rfl
@[simp] theorem State.modConn_time (i : Nat) (f : Conn → Conn) : (s.modConn i f).time = s.time := rfl
@[simp] theorem State.modConn_phases (i : Nat) (f : Conn → Conn) : (s.modConn i f).phases = s.phases := rfl
@[simp] theorem State.modConn_meas (i : Nat) (f : Conn → Conn) : (s.modConn i f).meas = s.meas := rfl
@[simp] theorem State.modConn_conns (i : Nat) (f : Conn → Conn) : (s.modConn i f).conns = s.conns.modify i f := rfl
@[simp] theorem State.modConn_engine (i : Nat) (f : Conn → Conn) : (s.modConn i f).engine = s.engine := rfl
@[simp] theorem State.modConn_budget (i : Nat) (f : Conn → Conn) : (s.modConn i f).budget = s.budget := rfl
@[simp] theorem State.modConn_line (i : Nat) (f : Conn → Conn) : (s.modConn i f).line = s.line := rfl
@[simp] theorem State.modConn_nbrs (i : Nat) (f : Conn → Conn) : (s.modConn i f).nbrs = s.nbrs := rfl
@[simp] theorem State.modConn_planner (i : Nat) (f : Conn → Conn) : (s.modConn i f).planner = s.planner := rfl
@[simp] theorem State.modConn_comps (i : Nat) (f : Conn → Conn) : (s.modConn i f).comps = s.comps := rfl
@[simp] theorem State.modConn_flags (i : Nat) (f : Conn → Conn) : (s.modConn i f).flags = s.flags := rfl
@[simp] theorem State.modConn_svc (i : Nat) (f : Conn → Conn) : (s.modConn i f).svc = s.svc := rfl
@[simp] theorem State.modConn_draws (i : Nat) (f : Conn → Conn) : (s.modConn i f).draws = s.draws := rfl
@[simp] theorem State.modConn_out (i : Nat) (f : Conn → Conn) : (s.modConn i f).out = s.out := rfl
@[simp] theorem State.modConn_pending (i : Nat) (f : Conn → Conn) : (s.modConn i f).pending = s.pending := rfl

/-! ### State.modHeld -/

@[simp] theorem State.modHeld_pins (i : Nat) (f : Held → Held) : (s.modHeld i f).pins = s.pins := rfl
@[simp] theorem State.modHeld_station (i : Nat) (f : Held → Held) : (s.modHeld i f).station = s.station := rfl
@[simp] theorem State.modHeld_cfg (i : Nat) (f : Held → Held) : (s.modHeld i f).cfg = s.cfg := rfl
@[simp] theorem State.modHeld_time (i : Nat) (f : Held → Held) : (s.modHeld i f).time = s.time := rfl
@[simp] theorem State.modHeld_phases (i : Nat) (f : Held → Held) : (s.modHeld i f).phases = s.phases := rfl
@[simp] theorem State.modHeld_meas (i : Nat) (f : Held → Held) : (s.modHeld i f).meas = { s.meas with held := s.meas.held.modify i f } := rfl
@[simp] theorem State.modHeld_conns (i : Nat) (f : Held → Held) : (s.modHeld i f).conns = s.conns := rfl
@[simp] theorem State.modHeld_engine (i : Nat) (f : Held → Held) : (s.modHeld i f).engine = s.engine := rfl
@[simp] theorem State.modHeld_budget (i : Nat) (f : Held → Held) : (s.modHeld i f).budget = s.budget := rfl
@[simp] theorem State.modHeld_line (i : Nat) (f : Held → Held) : (s.modHeld i f).line = s.line := rfl
@[simp] theorem State.modHeld_nbrs (i : Nat) (f : Held → Held) : (s.modHeld i f).nbrs = s.nbrs := rfl
@[simp] theorem State.modHeld_planner (i : Nat) (f : Held → Held) : (s.modHeld i f).planner = s.planner := rfl
@[simp] theorem State.modHeld_comps (i : Nat) (f : Held → Held) : (s.modHeld i f).comps = s.comps := rfl
@[simp] theorem State.modHeld_flags (i : Nat) (f : Held → Held) : (s.modHeld i f).flags = s.flags := rfl
@[simp] theorem State.modHeld_svc (i : Nat) (f : Held → Held) : (s.modHeld i f).svc = s.svc := rfl
@[simp] theorem State.modHeld_draws (i : Nat) (f : Held → Held) : (s.modHeld i f).draws = s.draws := rfl
@[simp] theorem State.modHeld_out (i : Nat) (f : Held → Held) : (s.modHeld i f).out = s.out := rfl
@[simp] theorem State.modHeld_pending (i : Nat) (f : Held → Held) : (s.modHeld i f).pending = s.pending := rfl

/-! ### State.sendCommand -/

@[simp] theorem State.sendCommand_pins (c : ModCmd) : (s.sendCommand c).pins = s.pins := rfl
@[simp] theorem State.sendCommand_station (c : ModCmd) : (s.sendCommand c).station = s.station := rfl
@[simp] theorem State.sendCommand_cfg (c : ModCmd) : (s.sendCommand c).cfg = s.cfg := rfl
@[simp] theorem State.sendCommand_time (c : ModCmd) : (s.sendCommand c).time = s.time := rfl
@[simp] theorem State.sendCommand_phases (c : ModCmd) : (s.sendCommand c).phases = s.phases := rfl
@[simp] theorem State.sendCommand_meas (c : ModCmd) : (s.sendCommand c).meas = s.meas := rfl
@[simp] theorem State.sendCommand_conns (c : ModCmd) : (s.sendCommand c).conns = s.conns := rfl
@[simp] theorem State.sendCommand_engine (c : ModCmd) : (s.sendCommand c).engine = s.engine := rfl
@[simp] theorem State.sendCommand_budget (c : ModCmd) : (s.sendCommand c).budget = s.budget := rfl
@[simp] theorem State.sendCommand_line (c : ModCmd) : (s.sendCommand c).line = s.line := rfl
@[simp] theorem State.sendCommand_nbrs (c : ModCmd) : (s.sendCommand c).nbrs = s.nbrs := rfl
@[simp] theorem State.sendCommand_planner (c : ModCmd) : (s.sendCommand c).planner = s.planner := rfl
@[simp] theorem State.sendCommand_comps (c : ModCmd) : (s.sendCommand c).comps = s.comps := rfl
@[simp] theorem State.sendCommand_flags (c : ModCmd) : (s.sendCommand c).flags = s.flags := rfl
@[simp] theorem State.sendCommand_svc (c : ModCmd) : (s.sendCommand c).svc = s.svc := rfl
@[simp] theorem State.sendCommand_draws (c : ModCmd) : (s.sendCommand c).draws = s.draws := rfl
@[simp] theorem State.sendCommand_out (c : ModCmd) : (s.sendCommand c).out = .command c :: s.out := rfl
@[simp] theorem State.sendCommand_pending (c : ModCmd) : (s.sendCommand c).pending = s.pending := rfl

/-! ### State.modQueue -/

@[simp] theorem State.modQueue_pins (f : Line → Line) : (s.modQueue f).pins = s.pins := rfl
@[simp] theorem State.modQueue_station (f : Line → Line) : (s.modQueue f).station = s.station := rfl
@[simp] theorem State.modQueue_cfg (f : Line → Line) : (s.modQueue f).cfg = s.cfg := rfl
@[simp] theorem State.modQueue_time (f : Line → Line) : (s.modQueue f).time = s.time := rfl
@[simp] theorem State.modQueue_phases (f : Line → Line) : (s.modQueue f).phases = s.phases := rfl
@[simp] theorem State.modQueue_meas (f : Line → Line) : (s.modQueue f).meas = s.meas := rfl
@[simp] theorem State.modQueue_conns (f : Line → Line) : (s.modQueue f).conns = s.conns := rfl
@[simp] theorem State.modQueue_engine (f : Line → Line) : (s.modQueue f).engine = s.engine := rfl
@[simp] theorem State.modQueue_budget (f : Line → Line) : (s.modQueue f).budget = s.budget := rfl
@[simp] theorem State.modQueue_line (f : Line → Line) : (s.modQueue f).line = (f s.line).refresh s.pins.lcd := rfl
@[simp] theorem State.modQueue_nbrs (f : Line → Line) : (s.modQueue f).nbrs = s.nbrs := rfl
@[simp] theorem State.modQueue_planner (f : Line → Line) : (s.modQueue f).planner = s.planner := rfl
@[simp] theorem State.modQueue_comps (f : Line → Line) : (s.modQueue f).comps = s.comps := rfl
@[simp] theorem State.modQueue_flags (f : Line → Line) : (s.modQueue f).flags = s.flags := rfl
@[simp] theorem State.modQueue_svc (f : Line → Line) : (s.modQueue f).svc = s.svc := rfl
@[simp] theorem State.modQueue_draws (f : Line → Line) : (s.modQueue f).draws = s.draws := rfl
@[simp] theorem State.modQueue_out (f : Line → Line) : (s.modQueue f).out = s.out := rfl
@[simp] theorem State.modQueue_pending (f : Line → Line) : (s.modQueue f).pending = s.pending := rfl

/-! ### State.clearLine -/

@[simp] theorem State.clearLine_pins : (s.clearLine).pins = s.pins := rfl
@[simp] theorem State.clearLine_station : (s.clearLine).station = s.station := rfl
@[simp] theorem State.clearLine_cfg : (s.clearLine).cfg = s.cfg := rfl
@[simp] theorem State.clearLine_time : (s.clearLine).time = s.time := rfl
@[simp] theorem State.clearLine_phases : (s.clearLine).phases = s.phases := rfl
@[simp] theorem State.clearLine_meas : (s.clearLine).meas = s.meas := rfl
@[simp] theorem State.clearLine_conns : (s.clearLine).conns = s.conns := rfl
@[simp] theorem State.clearLine_engine : (s.clearLine).engine = s.engine := rfl
@[simp] theorem State.clearLine_budget : (s.clearLine).budget = s.budget := rfl
@[simp] theorem State.clearLine_line : (s.clearLine).line = { s.line with qHold := none, qOutcome := none, qIntent := none, qLoad := none, access := .idle, tx := none } := rfl
@[simp] theorem State.clearLine_nbrs : (s.clearLine).nbrs = s.nbrs := rfl
@[simp] theorem State.clearLine_planner : (s.clearLine).planner = s.planner := rfl
@[simp] theorem State.clearLine_comps : (s.clearLine).comps = s.comps := rfl
@[simp] theorem State.clearLine_flags : (s.clearLine).flags = s.flags := rfl
@[simp] theorem State.clearLine_svc : (s.clearLine).svc = s.svc := rfl
@[simp] theorem State.clearLine_draws : (s.clearLine).draws = s.draws := rfl
@[simp] theorem State.clearLine_out : (s.clearLine).out = s.out := rfl
@[simp] theorem State.clearLine_pending : (s.clearLine).pending = s.pending := rfl

/-! ### State.modPlanner -/

@[simp] theorem State.modPlanner_pins (f : Planner → Planner) : (s.modPlanner f).pins = s.pins := rfl
@[simp] theorem State.modPlanner_station (f : Planner → Planner) : (s.modPlanner f).station = s.station := rfl
@[simp] theorem State.modPlanner_cfg (f : Planner → Planner) : (s.modPlanner f).cfg = s.cfg := rfl
@[simp] theorem State.modPlanner_time (f : Planner → Planner) : (s.modPlanner f).time = s.time := rfl
@[simp] theorem State.modPlanner_phases (f : Planner → Planner) : (s.modPlanner f).phases = s.phases := rfl
@[simp] theorem State.modPlanner_meas (f : Planner → Planner) : (s.modPlanner f).meas = s.meas := rfl
@[simp] theorem State.modPlanner_conns (f : Planner → Planner) : (s.modPlanner f).conns = s.conns := rfl
@[simp] theorem State.modPlanner_engine (f : Planner → Planner) : (s.modPlanner f).engine = s.engine := rfl
@[simp] theorem State.modPlanner_budget (f : Planner → Planner) : (s.modPlanner f).budget = s.budget := rfl
@[simp] theorem State.modPlanner_line (f : Planner → Planner) : (s.modPlanner f).line = s.line := rfl
@[simp] theorem State.modPlanner_nbrs (f : Planner → Planner) : (s.modPlanner f).nbrs = s.nbrs := rfl
@[simp] theorem State.modPlanner_planner (f : Planner → Planner) : (s.modPlanner f).planner = f s.planner := rfl
@[simp] theorem State.modPlanner_comps (f : Planner → Planner) : (s.modPlanner f).comps = s.comps := rfl
@[simp] theorem State.modPlanner_flags (f : Planner → Planner) : (s.modPlanner f).flags = s.flags := rfl
@[simp] theorem State.modPlanner_svc (f : Planner → Planner) : (s.modPlanner f).svc = s.svc := rfl
@[simp] theorem State.modPlanner_draws (f : Planner → Planner) : (s.modPlanner f).draws = s.draws := rfl
@[simp] theorem State.modPlanner_out (f : Planner → Planner) : (s.modPlanner f).out = s.out := rfl
@[simp] theorem State.modPlanner_pending (f : Planner → Planner) : (s.modPlanner f).pending = s.pending := rfl

/-! ### State.modBudget -/

@[simp] theorem State.modBudget_pins (f : Budget → Budget) : (s.modBudget f).pins = s.pins := rfl
@[simp] theorem State.modBudget_station (f : Budget → Budget) : (s.modBudget f).station = s.station := rfl
@[simp] theorem State.modBudget_cfg (f : Budget → Budget) : (s.modBudget f).cfg = s.cfg := rfl
@[simp] theorem State.modBudget_time (f : Budget → Budget) : (s.modBudget f).time = s.time := rfl
@[simp] theorem State.modBudget_phases (f : Budget → Budget) : (s.modBudget f).phases = s.phases := rfl
@[simp] theorem State.modBudget_meas (f : Budget → Budget) : (s.modBudget f).meas = s.meas := rfl
@[simp] theorem State.modBudget_conns (f : Budget → Budget) : (s.modBudget f).conns = s.conns := rfl
@[simp] theorem State.modBudget_engine (f : Budget → Budget) : (s.modBudget f).engine = s.engine := rfl
@[simp] theorem State.modBudget_budget (f : Budget → Budget) : (s.modBudget f).budget = f s.budget := rfl
@[simp] theorem State.modBudget_line (f : Budget → Budget) : (s.modBudget f).line = s.line := rfl
@[simp] theorem State.modBudget_nbrs (f : Budget → Budget) : (s.modBudget f).nbrs = s.nbrs := rfl
@[simp] theorem State.modBudget_planner (f : Budget → Budget) : (s.modBudget f).planner = s.planner := rfl
@[simp] theorem State.modBudget_comps (f : Budget → Budget) : (s.modBudget f).comps = s.comps := rfl
@[simp] theorem State.modBudget_flags (f : Budget → Budget) : (s.modBudget f).flags = s.flags := rfl
@[simp] theorem State.modBudget_svc (f : Budget → Budget) : (s.modBudget f).svc = s.svc := rfl
@[simp] theorem State.modBudget_draws (f : Budget → Budget) : (s.modBudget f).draws = s.draws := rfl
@[simp] theorem State.modBudget_out (f : Budget → Budget) : (s.modBudget f).out = s.out := rfl
@[simp] theorem State.modBudget_pending (f : Budget → Budget) : (s.modBudget f).pending = s.pending := rfl

/-! ### State.setAccess -/

@[simp] theorem State.setAccess_pins (a : Access) : (s.setAccess a).pins = s.pins := rfl
@[simp] theorem State.setAccess_station (a : Access) : (s.setAccess a).station = s.station := rfl
@[simp] theorem State.setAccess_cfg (a : Access) : (s.setAccess a).cfg = s.cfg := rfl
@[simp] theorem State.setAccess_time (a : Access) : (s.setAccess a).time = s.time := rfl
@[simp] theorem State.setAccess_phases (a : Access) : (s.setAccess a).phases = s.phases := rfl
@[simp] theorem State.setAccess_meas (a : Access) : (s.setAccess a).meas = s.meas := rfl
@[simp] theorem State.setAccess_conns (a : Access) : (s.setAccess a).conns = s.conns := rfl
@[simp] theorem State.setAccess_engine (a : Access) : (s.setAccess a).engine = s.engine := rfl
@[simp] theorem State.setAccess_budget (a : Access) : (s.setAccess a).budget = s.budget := rfl
@[simp] theorem State.setAccess_line (a : Access) : (s.setAccess a).line = { s.line with access := a } := rfl
@[simp] theorem State.setAccess_nbrs (a : Access) : (s.setAccess a).nbrs = s.nbrs := rfl
@[simp] theorem State.setAccess_planner (a : Access) : (s.setAccess a).planner = s.planner := rfl
@[simp] theorem State.setAccess_comps (a : Access) : (s.setAccess a).comps = s.comps := rfl
@[simp] theorem State.setAccess_flags (a : Access) : (s.setAccess a).flags = s.flags := rfl
@[simp] theorem State.setAccess_svc (a : Access) : (s.setAccess a).svc = s.svc := rfl
@[simp] theorem State.setAccess_draws (a : Access) : (s.setAccess a).draws = s.draws := rfl
@[simp] theorem State.setAccess_out (a : Access) : (s.setAccess a).out = s.out := rfl
@[simp] theorem State.setAccess_pending (a : Access) : (s.setAccess a).pending = s.pending := rfl

/-! ### State.modEngine -/

@[simp] theorem State.modEngine_pins (f : Engine → Engine) : (s.modEngine f).pins = s.pins := rfl
@[simp] theorem State.modEngine_station (f : Engine → Engine) : (s.modEngine f).station = s.station := rfl
@[simp] theorem State.modEngine_cfg (f : Engine → Engine) : (s.modEngine f).cfg = s.cfg := rfl
@[simp] theorem State.modEngine_time (f : Engine → Engine) : (s.modEngine f).time = s.time := rfl
@[simp] theorem State.modEngine_phases (f : Engine → Engine) : (s.modEngine f).phases = s.phases := rfl
@[simp] theorem State.modEngine_meas (f : Engine → Engine) : (s.modEngine f).meas = s.meas := rfl
@[simp] theorem State.modEngine_conns (f : Engine → Engine) : (s.modEngine f).conns = s.conns := rfl
@[simp] theorem State.modEngine_engine (f : Engine → Engine) : (s.modEngine f).engine = f s.engine := rfl
@[simp] theorem State.modEngine_budget (f : Engine → Engine) : (s.modEngine f).budget = s.budget := rfl
@[simp] theorem State.modEngine_line (f : Engine → Engine) : (s.modEngine f).line = s.line := rfl
@[simp] theorem State.modEngine_nbrs (f : Engine → Engine) : (s.modEngine f).nbrs = s.nbrs := rfl
@[simp] theorem State.modEngine_planner (f : Engine → Engine) : (s.modEngine f).planner = s.planner := rfl
@[simp] theorem State.modEngine_comps (f : Engine → Engine) : (s.modEngine f).comps = s.comps := rfl
@[simp] theorem State.modEngine_flags (f : Engine → Engine) : (s.modEngine f).flags = s.flags := rfl
@[simp] theorem State.modEngine_svc (f : Engine → Engine) : (s.modEngine f).svc = s.svc := rfl
@[simp] theorem State.modEngine_draws (f : Engine → Engine) : (s.modEngine f).draws = s.draws := rfl
@[simp] theorem State.modEngine_out (f : Engine → Engine) : (s.modEngine f).out = s.out := rfl
@[simp] theorem State.modEngine_pending (f : Engine → Engine) : (s.modEngine f).pending = s.pending := rfl

/-! ### State.setReq -/

@[simp] theorem State.setReq_pins (r : Option Req) : (s.setReq r).pins = s.pins := rfl
@[simp] theorem State.setReq_station (r : Option Req) : (s.setReq r).station = s.station := rfl
@[simp] theorem State.setReq_cfg (r : Option Req) : (s.setReq r).cfg = s.cfg := rfl
@[simp] theorem State.setReq_time (r : Option Req) : (s.setReq r).time = s.time := rfl
@[simp] theorem State.setReq_phases (r : Option Req) : (s.setReq r).phases = s.phases := rfl
@[simp] theorem State.setReq_meas (r : Option Req) : (s.setReq r).meas = s.meas := rfl
@[simp] theorem State.setReq_conns (r : Option Req) : (s.setReq r).conns = s.conns := rfl
@[simp] theorem State.setReq_engine (r : Option Req) : (s.setReq r).engine = { s.engine with req := r } := rfl
@[simp] theorem State.setReq_budget (r : Option Req) : (s.setReq r).budget = s.budget := rfl
@[simp] theorem State.setReq_line (r : Option Req) : (s.setReq r).line = s.line := rfl
@[simp] theorem State.setReq_nbrs (r : Option Req) : (s.setReq r).nbrs = s.nbrs := rfl
@[simp] theorem State.setReq_planner (r : Option Req) : (s.setReq r).planner = s.planner := rfl
@[simp] theorem State.setReq_comps (r : Option Req) : (s.setReq r).comps = s.comps := rfl
@[simp] theorem State.setReq_flags (r : Option Req) : (s.setReq r).flags = s.flags := rfl
@[simp] theorem State.setReq_svc (r : Option Req) : (s.setReq r).svc = s.svc := rfl
@[simp] theorem State.setReq_draws (r : Option Req) : (s.setReq r).draws = s.draws := rfl
@[simp] theorem State.setReq_out (r : Option Req) : (s.setReq r).out = s.out := rfl
@[simp] theorem State.setReq_pending (r : Option Req) : (s.setReq r).pending = s.pending := rfl

/-! ### State.modStation -/

@[simp] theorem State.modStation_pins (f : Station → Station) : (s.modStation f).pins = s.pins := rfl
@[simp] theorem State.modStation_station (f : Station → Station) : (s.modStation f).station = f s.station := rfl
@[simp] theorem State.modStation_cfg (f : Station → Station) : (s.modStation f).cfg = s.cfg := rfl
@[simp] theorem State.modStation_time (f : Station → Station) : (s.modStation f).time = s.time := rfl
@[simp] theorem State.modStation_phases (f : Station → Station) : (s.modStation f).phases = s.phases := rfl
@[simp] theorem State.modStation_meas (f : Station → Station) : (s.modStation f).meas = s.meas := rfl
@[simp] theorem State.modStation_conns (f : Station → Station) : (s.modStation f).conns = s.conns := rfl
@[simp] theorem State.modStation_engine (f : Station → Station) : (s.modStation f).engine = s.engine := rfl
@[simp] theorem State.modStation_budget (f : Station → Station) : (s.modStation f).budget = s.budget := rfl
@[simp] theorem State.modStation_line (f : Station → Station) : (s.modStation f).line = s.line := rfl
@[simp] theorem State.modStation_nbrs (f : Station → Station) : (s.modStation f).nbrs = s.nbrs := rfl
@[simp] theorem State.modStation_planner (f : Station → Station) : (s.modStation f).planner = s.planner := rfl
@[simp] theorem State.modStation_comps (f : Station → Station) : (s.modStation f).comps = s.comps := rfl
@[simp] theorem State.modStation_flags (f : Station → Station) : (s.modStation f).flags = s.flags := rfl
@[simp] theorem State.modStation_svc (f : Station → Station) : (s.modStation f).svc = s.svc := rfl
@[simp] theorem State.modStation_draws (f : Station → Station) : (s.modStation f).draws = s.draws := rfl
@[simp] theorem State.modStation_out (f : Station → Station) : (s.modStation f).out = s.out := rfl
@[simp] theorem State.modStation_pending (f : Station → Station) : (s.modStation f).pending = s.pending := rfl

/-! ### State.modTime -/

@[simp] theorem State.modTime_pins (f : Time → Time) : (s.modTime f).pins = s.pins := rfl
@[simp] theorem State.modTime_station (f : Time → Time) : (s.modTime f).station = s.station := rfl
@[simp] theorem State.modTime_cfg (f : Time → Time) : (s.modTime f).cfg = s.cfg := rfl
@[simp] theorem State.modTime_time (f : Time → Time) : (s.modTime f).time = f s.time := rfl
@[simp] theorem State.modTime_phases (f : Time → Time) : (s.modTime f).phases = s.phases := rfl
@[simp] theorem State.modTime_meas (f : Time → Time) : (s.modTime f).meas = s.meas := rfl
@[simp] theorem State.modTime_conns (f : Time → Time) : (s.modTime f).conns = s.conns := rfl
@[simp] theorem State.modTime_engine (f : Time → Time) : (s.modTime f).engine = s.engine := rfl
@[simp] theorem State.modTime_budget (f : Time → Time) : (s.modTime f).budget = s.budget := rfl
@[simp] theorem State.modTime_line (f : Time → Time) : (s.modTime f).line = s.line := rfl
@[simp] theorem State.modTime_nbrs (f : Time → Time) : (s.modTime f).nbrs = s.nbrs := rfl
@[simp] theorem State.modTime_planner (f : Time → Time) : (s.modTime f).planner = s.planner := rfl
@[simp] theorem State.modTime_comps (f : Time → Time) : (s.modTime f).comps = s.comps := rfl
@[simp] theorem State.modTime_flags (f : Time → Time) : (s.modTime f).flags = s.flags := rfl
@[simp] theorem State.modTime_svc (f : Time → Time) : (s.modTime f).svc = s.svc := rfl
@[simp] theorem State.modTime_draws (f : Time → Time) : (s.modTime f).draws = s.draws := rfl
@[simp] theorem State.modTime_out (f : Time → Time) : (s.modTime f).out = s.out := rfl
@[simp] theorem State.modTime_pending (f : Time → Time) : (s.modTime f).pending = s.pending := rfl

/-! ### State.modPhase -/

@[simp] theorem State.modPhase_pins (p : Phase) (f : PhaseSup → PhaseSup) : (s.modPhase p f).pins = s.pins := rfl
@[simp] theorem State.modPhase_station (p : Phase) (f : PhaseSup → PhaseSup) : (s.modPhase p f).station = s.station := rfl
@[simp] theorem State.modPhase_cfg (p : Phase) (f : PhaseSup → PhaseSup) : (s.modPhase p f).cfg = s.cfg := rfl
@[simp] theorem State.modPhase_time (p : Phase) (f : PhaseSup → PhaseSup) : (s.modPhase p f).time = s.time := rfl
@[simp] theorem State.modPhase_phases (p : Phase) (f : PhaseSup → PhaseSup) : (s.modPhase p f).phases = s.phases.set p (f (s.phases.get p)) := rfl
@[simp] theorem State.modPhase_meas (p : Phase) (f : PhaseSup → PhaseSup) : (s.modPhase p f).meas = s.meas := rfl
@[simp] theorem State.modPhase_conns (p : Phase) (f : PhaseSup → PhaseSup) : (s.modPhase p f).conns = s.conns := rfl
@[simp] theorem State.modPhase_engine (p : Phase) (f : PhaseSup → PhaseSup) : (s.modPhase p f).engine = s.engine := rfl
@[simp] theorem State.modPhase_budget (p : Phase) (f : PhaseSup → PhaseSup) : (s.modPhase p f).budget = s.budget := rfl
@[simp] theorem State.modPhase_line (p : Phase) (f : PhaseSup → PhaseSup) : (s.modPhase p f).line = s.line := rfl
@[simp] theorem State.modPhase_nbrs (p : Phase) (f : PhaseSup → PhaseSup) : (s.modPhase p f).nbrs = s.nbrs := rfl
@[simp] theorem State.modPhase_planner (p : Phase) (f : PhaseSup → PhaseSup) : (s.modPhase p f).planner = s.planner := rfl
@[simp] theorem State.modPhase_comps (p : Phase) (f : PhaseSup → PhaseSup) : (s.modPhase p f).comps = s.comps := rfl
@[simp] theorem State.modPhase_flags (p : Phase) (f : PhaseSup → PhaseSup) : (s.modPhase p f).flags = s.flags := rfl
@[simp] theorem State.modPhase_svc (p : Phase) (f : PhaseSup → PhaseSup) : (s.modPhase p f).svc = s.svc := rfl
@[simp] theorem State.modPhase_draws (p : Phase) (f : PhaseSup → PhaseSup) : (s.modPhase p f).draws = s.draws := rfl
@[simp] theorem State.modPhase_out (p : Phase) (f : PhaseSup → PhaseSup) : (s.modPhase p f).out = s.out := rfl
@[simp] theorem State.modPhase_pending (p : Phase) (f : PhaseSup → PhaseSup) : (s.modPhase p f).pending = s.pending := rfl

/-! ### State.enterMode -/

@[simp] theorem State.enterMode_pins (m : Mode) (t : Option Nat) : (s.enterMode m t).pins = s.pins := rfl
@[simp] theorem State.enterMode_station (m : Mode) (t : Option Nat) : (s.enterMode m t).station = { s.station with mode := m, listenOnly := t } := rfl
@[simp] theorem State.enterMode_cfg (m : Mode) (t : Option Nat) : (s.enterMode m t).cfg = s.cfg := rfl
@[simp] theorem State.enterMode_time (m : Mode) (t : Option Nat) : (s.enterMode m t).time = s.time := rfl
@[simp] theorem State.enterMode_phases (m : Mode) (t : Option Nat) : (s.enterMode m t).phases = s.phases := rfl
@[simp] theorem State.enterMode_meas (m : Mode) (t : Option Nat) : (s.enterMode m t).meas = s.meas := rfl
@[simp] theorem State.enterMode_conns (m : Mode) (t : Option Nat) : (s.enterMode m t).conns = s.conns := rfl
@[simp] theorem State.enterMode_engine (m : Mode) (t : Option Nat) : (s.enterMode m t).engine = s.engine := rfl
@[simp] theorem State.enterMode_budget (m : Mode) (t : Option Nat) : (s.enterMode m t).budget = s.budget := rfl
@[simp] theorem State.enterMode_line (m : Mode) (t : Option Nat) : (s.enterMode m t).line = s.line := rfl
@[simp] theorem State.enterMode_nbrs (m : Mode) (t : Option Nat) : (s.enterMode m t).nbrs = s.nbrs := rfl
@[simp] theorem State.enterMode_planner (m : Mode) (t : Option Nat) : (s.enterMode m t).planner = s.planner := rfl
@[simp] theorem State.enterMode_comps (m : Mode) (t : Option Nat) : (s.enterMode m t).comps = s.comps := rfl
@[simp] theorem State.enterMode_flags (m : Mode) (t : Option Nat) : (s.enterMode m t).flags = s.flags := rfl
@[simp] theorem State.enterMode_svc (m : Mode) (t : Option Nat) : (s.enterMode m t).svc = s.svc := rfl
@[simp] theorem State.enterMode_draws (m : Mode) (t : Option Nat) : (s.enterMode m t).draws = s.draws := rfl
@[simp] theorem State.enterMode_out (m : Mode) (t : Option Nat) : (s.enterMode m t).out = s.out := rfl
@[simp] theorem State.enterMode_pending (m : Mode) (t : Option Nat) : (s.enterMode m t).pending = s.pending := rfl

/-! ### State.setSlot -/

@[simp] theorem State.setSlot_pins (k : Nat) (e : Option Entry) : (s.setSlot k e).pins = s.pins := rfl
@[simp] theorem State.setSlot_station (k : Nat) (e : Option Entry) : (s.setSlot k e).station = s.station := rfl
@[simp] theorem State.setSlot_cfg (k : Nat) (e : Option Entry) : (s.setSlot k e).cfg = s.cfg := rfl
@[simp] theorem State.setSlot_time (k : Nat) (e : Option Entry) : (s.setSlot k e).time = s.time := rfl
@[simp] theorem State.setSlot_phases (k : Nat) (e : Option Entry) : (s.setSlot k e).phases = s.phases := rfl
@[simp] theorem State.setSlot_meas (k : Nat) (e : Option Entry) : (s.setSlot k e).meas = s.meas := rfl
@[simp] theorem State.setSlot_conns (k : Nat) (e : Option Entry) : (s.setSlot k e).conns = s.conns := rfl
@[simp] theorem State.setSlot_engine (k : Nat) (e : Option Entry) : (s.setSlot k e).engine = s.engine := rfl
@[simp] theorem State.setSlot_budget (k : Nat) (e : Option Entry) : (s.setSlot k e).budget = s.budget := rfl
@[simp] theorem State.setSlot_line (k : Nat) (e : Option Entry) : (s.setSlot k e).line = s.line := rfl
@[simp] theorem State.setSlot_nbrs (k : Nat) (e : Option Entry) : (s.setSlot k e).nbrs = s.nbrs.set k e := rfl
@[simp] theorem State.setSlot_planner (k : Nat) (e : Option Entry) : (s.setSlot k e).planner = s.planner := rfl
@[simp] theorem State.setSlot_comps (k : Nat) (e : Option Entry) : (s.setSlot k e).comps = s.comps := rfl
@[simp] theorem State.setSlot_flags (k : Nat) (e : Option Entry) : (s.setSlot k e).flags = s.flags := rfl
@[simp] theorem State.setSlot_svc (k : Nat) (e : Option Entry) : (s.setSlot k e).svc = s.svc := rfl
@[simp] theorem State.setSlot_draws (k : Nat) (e : Option Entry) : (s.setSlot k e).draws = s.draws := rfl
@[simp] theorem State.setSlot_out (k : Nat) (e : Option Entry) : (s.setSlot k e).out = s.out := rfl
@[simp] theorem State.setSlot_pending (k : Nat) (e : Option Entry) : (s.setSlot k e).pending = s.pending := rfl

/-! ### State.setLoader -/

@[simp] theorem State.setLoader_pins (l : Loader) (n : Nat) : (s.setLoader l n).pins = s.pins := rfl
@[simp] theorem State.setLoader_station (l : Loader) (n : Nat) : (s.setLoader l n).station = { s.station with loader := l, failures := n } := rfl
@[simp] theorem State.setLoader_cfg (l : Loader) (n : Nat) : (s.setLoader l n).cfg = s.cfg := rfl
@[simp] theorem State.setLoader_time (l : Loader) (n : Nat) : (s.setLoader l n).time = s.time := rfl
@[simp] theorem State.setLoader_phases (l : Loader) (n : Nat) : (s.setLoader l n).phases = s.phases := rfl
@[simp] theorem State.setLoader_meas (l : Loader) (n : Nat) : (s.setLoader l n).meas = s.meas := rfl
@[simp] theorem State.setLoader_conns (l : Loader) (n : Nat) : (s.setLoader l n).conns = s.conns := rfl
@[simp] theorem State.setLoader_engine (l : Loader) (n : Nat) : (s.setLoader l n).engine = s.engine := rfl
@[simp] theorem State.setLoader_budget (l : Loader) (n : Nat) : (s.setLoader l n).budget = s.budget := rfl
@[simp] theorem State.setLoader_line (l : Loader) (n : Nat) : (s.setLoader l n).line = s.line := rfl
@[simp] theorem State.setLoader_nbrs (l : Loader) (n : Nat) : (s.setLoader l n).nbrs = s.nbrs := rfl
@[simp] theorem State.setLoader_planner (l : Loader) (n : Nat) : (s.setLoader l n).planner = s.planner := rfl
@[simp] theorem State.setLoader_comps (l : Loader) (n : Nat) : (s.setLoader l n).comps = s.comps := rfl
@[simp] theorem State.setLoader_flags (l : Loader) (n : Nat) : (s.setLoader l n).flags = s.flags := rfl
@[simp] theorem State.setLoader_svc (l : Loader) (n : Nat) : (s.setLoader l n).svc = s.svc := rfl
@[simp] theorem State.setLoader_draws (l : Loader) (n : Nat) : (s.setLoader l n).draws = s.draws := rfl
@[simp] theorem State.setLoader_out (l : Loader) (n : Nat) : (s.setLoader l n).out = s.out := rfl
@[simp] theorem State.setLoader_pending (l : Loader) (n : Nat) : (s.setLoader l n).pending = s.pending := rfl

/-! ### State.modSvc -/

@[simp] theorem State.modSvc_pins (f : Svc → Svc) : (s.modSvc f).pins = s.pins := rfl
@[simp] theorem State.modSvc_station (f : Svc → Svc) : (s.modSvc f).station = s.station := rfl
@[simp] theorem State.modSvc_cfg (f : Svc → Svc) : (s.modSvc f).cfg = s.cfg := rfl
@[simp] theorem State.modSvc_time (f : Svc → Svc) : (s.modSvc f).time = s.time := rfl
@[simp] theorem State.modSvc_phases (f : Svc → Svc) : (s.modSvc f).phases = s.phases := rfl
@[simp] theorem State.modSvc_meas (f : Svc → Svc) : (s.modSvc f).meas = s.meas := rfl
@[simp] theorem State.modSvc_conns (f : Svc → Svc) : (s.modSvc f).conns = s.conns := rfl
@[simp] theorem State.modSvc_engine (f : Svc → Svc) : (s.modSvc f).engine = s.engine := rfl
@[simp] theorem State.modSvc_budget (f : Svc → Svc) : (s.modSvc f).budget = s.budget := rfl
@[simp] theorem State.modSvc_line (f : Svc → Svc) : (s.modSvc f).line = s.line := rfl
@[simp] theorem State.modSvc_nbrs (f : Svc → Svc) : (s.modSvc f).nbrs = s.nbrs := rfl
@[simp] theorem State.modSvc_planner (f : Svc → Svc) : (s.modSvc f).planner = s.planner := rfl
@[simp] theorem State.modSvc_comps (f : Svc → Svc) : (s.modSvc f).comps = s.comps := rfl
@[simp] theorem State.modSvc_flags (f : Svc → Svc) : (s.modSvc f).flags = s.flags := rfl
@[simp] theorem State.modSvc_svc (f : Svc → Svc) : (s.modSvc f).svc = f s.svc := rfl
@[simp] theorem State.modSvc_draws (f : Svc → Svc) : (s.modSvc f).draws = s.draws := rfl
@[simp] theorem State.modSvc_out (f : Svc → Svc) : (s.modSvc f).out = s.out := rfl
@[simp] theorem State.modSvc_pending (f : Svc → Svc) : (s.modSvc f).pending = s.pending := rfl

/-! ### State.setRx -/

@[simp] theorem State.setRx_pins (r : Rx) : (s.setRx r).pins = s.pins := rfl
@[simp] theorem State.setRx_station (r : Rx) : (s.setRx r).station = s.station := rfl
@[simp] theorem State.setRx_cfg (r : Rx) : (s.setRx r).cfg = s.cfg := rfl
@[simp] theorem State.setRx_time (r : Rx) : (s.setRx r).time = s.time := rfl
@[simp] theorem State.setRx_phases (r : Rx) : (s.setRx r).phases = s.phases := rfl
@[simp] theorem State.setRx_meas (r : Rx) : (s.setRx r).meas = s.meas := rfl
@[simp] theorem State.setRx_conns (r : Rx) : (s.setRx r).conns = s.conns := rfl
@[simp] theorem State.setRx_engine (r : Rx) : (s.setRx r).engine = s.engine := rfl
@[simp] theorem State.setRx_budget (r : Rx) : (s.setRx r).budget = s.budget := rfl
@[simp] theorem State.setRx_line (r : Rx) : (s.setRx r).line = s.line := rfl
@[simp] theorem State.setRx_nbrs (r : Rx) : (s.setRx r).nbrs = s.nbrs := rfl
@[simp] theorem State.setRx_planner (r : Rx) : (s.setRx r).planner = s.planner := rfl
@[simp] theorem State.setRx_comps (r : Rx) : (s.setRx r).comps = s.comps := rfl
@[simp] theorem State.setRx_flags (r : Rx) : (s.setRx r).flags = s.flags := rfl
@[simp] theorem State.setRx_svc (r : Rx) : (s.setRx r).svc = { s.svc with rx := r } := rfl
@[simp] theorem State.setRx_draws (r : Rx) : (s.setRx r).draws = s.draws := rfl
@[simp] theorem State.setRx_out (r : Rx) : (s.setRx r).out = s.out := rfl
@[simp] theorem State.setRx_pending (r : Rx) : (s.setRx r).pending = s.pending := rfl

/-! ### State.setOverrun -/

@[simp] theorem State.setOverrun_pins : (s.setOverrun).pins = s.pins := rfl
@[simp] theorem State.setOverrun_station : (s.setOverrun).station = s.station := rfl
@[simp] theorem State.setOverrun_cfg : (s.setOverrun).cfg = s.cfg := rfl
@[simp] theorem State.setOverrun_time : (s.setOverrun).time = s.time := rfl
@[simp] theorem State.setOverrun_phases : (s.setOverrun).phases = s.phases := rfl
@[simp] theorem State.setOverrun_meas : (s.setOverrun).meas = s.meas := rfl
@[simp] theorem State.setOverrun_conns : (s.setOverrun).conns = s.conns := rfl
@[simp] theorem State.setOverrun_engine : (s.setOverrun).engine = s.engine := rfl
@[simp] theorem State.setOverrun_budget : (s.setOverrun).budget = s.budget := rfl
@[simp] theorem State.setOverrun_line : (s.setOverrun).line = s.line := rfl
@[simp] theorem State.setOverrun_nbrs : (s.setOverrun).nbrs = s.nbrs := rfl
@[simp] theorem State.setOverrun_planner : (s.setOverrun).planner = s.planner := rfl
@[simp] theorem State.setOverrun_comps : (s.setOverrun).comps = s.comps := rfl
@[simp] theorem State.setOverrun_flags : (s.setOverrun).flags = s.flags := rfl
@[simp] theorem State.setOverrun_svc : (s.setOverrun).svc = { s.svc with overrun := true } := rfl
@[simp] theorem State.setOverrun_draws : (s.setOverrun).draws = s.draws := rfl
@[simp] theorem State.setOverrun_out : (s.setOverrun).out = s.out := rfl
@[simp] theorem State.setOverrun_pending : (s.setOverrun).pending = s.pending := rfl

/-! ### State.setOverride -/

@[simp] theorem State.setOverride_pins (i : Nat) (a : Attr) : (s.setOverride i a).pins = s.pins := rfl
@[simp] theorem State.setOverride_station (i : Nat) (a : Attr) : (s.setOverride i a).station = { s.station with overrides := s.station.overrides.set i (some a) } := rfl
@[simp] theorem State.setOverride_cfg (i : Nat) (a : Attr) : (s.setOverride i a).cfg = s.cfg := rfl
@[simp] theorem State.setOverride_time (i : Nat) (a : Attr) : (s.setOverride i a).time = s.time := rfl
@[simp] theorem State.setOverride_phases (i : Nat) (a : Attr) : (s.setOverride i a).phases = s.phases := rfl
@[simp] theorem State.setOverride_meas (i : Nat) (a : Attr) : (s.setOverride i a).meas = s.meas := rfl
@[simp] theorem State.setOverride_conns (i : Nat) (a : Attr) : (s.setOverride i a).conns = s.conns := rfl
@[simp] theorem State.setOverride_engine (i : Nat) (a : Attr) : (s.setOverride i a).engine = s.engine := rfl
@[simp] theorem State.setOverride_budget (i : Nat) (a : Attr) : (s.setOverride i a).budget = s.budget := rfl
@[simp] theorem State.setOverride_line (i : Nat) (a : Attr) : (s.setOverride i a).line = s.line := rfl
@[simp] theorem State.setOverride_nbrs (i : Nat) (a : Attr) : (s.setOverride i a).nbrs = s.nbrs := rfl
@[simp] theorem State.setOverride_planner (i : Nat) (a : Attr) : (s.setOverride i a).planner = s.planner := rfl
@[simp] theorem State.setOverride_comps (i : Nat) (a : Attr) : (s.setOverride i a).comps = s.comps := rfl
@[simp] theorem State.setOverride_flags (i : Nat) (a : Attr) : (s.setOverride i a).flags = s.flags := rfl
@[simp] theorem State.setOverride_svc (i : Nat) (a : Attr) : (s.setOverride i a).svc = s.svc := rfl
@[simp] theorem State.setOverride_draws (i : Nat) (a : Attr) : (s.setOverride i a).draws = s.draws := rfl
@[simp] theorem State.setOverride_out (i : Nat) (a : Attr) : (s.setOverride i a).out = s.out := rfl
@[simp] theorem State.setOverride_pending (i : Nat) (a : Attr) : (s.setOverride i a).pending = s.pending := rfl

/-! ### State.setLcd -/

@[simp] theorem State.setLcd_pins (b : Bool) : (s.setLcd b).pins = { s.pins with lcd := b } := rfl
@[simp] theorem State.setLcd_station (b : Bool) : (s.setLcd b).station = s.station := rfl
@[simp] theorem State.setLcd_cfg (b : Bool) : (s.setLcd b).cfg = s.cfg := rfl
@[simp] theorem State.setLcd_time (b : Bool) : (s.setLcd b).time = s.time := rfl
@[simp] theorem State.setLcd_phases (b : Bool) : (s.setLcd b).phases = s.phases := rfl
@[simp] theorem State.setLcd_meas (b : Bool) : (s.setLcd b).meas = s.meas := rfl
@[simp] theorem State.setLcd_conns (b : Bool) : (s.setLcd b).conns = s.conns := rfl
@[simp] theorem State.setLcd_engine (b : Bool) : (s.setLcd b).engine = s.engine := rfl
@[simp] theorem State.setLcd_budget (b : Bool) : (s.setLcd b).budget = s.budget := rfl
@[simp] theorem State.setLcd_line (b : Bool) : (s.setLcd b).line = s.line := rfl
@[simp] theorem State.setLcd_nbrs (b : Bool) : (s.setLcd b).nbrs = s.nbrs := rfl
@[simp] theorem State.setLcd_planner (b : Bool) : (s.setLcd b).planner = s.planner := rfl
@[simp] theorem State.setLcd_comps (b : Bool) : (s.setLcd b).comps = s.comps := rfl
@[simp] theorem State.setLcd_flags (b : Bool) : (s.setLcd b).flags = s.flags := rfl
@[simp] theorem State.setLcd_svc (b : Bool) : (s.setLcd b).svc = s.svc := rfl
@[simp] theorem State.setLcd_draws (b : Bool) : (s.setLcd b).draws = s.draws := rfl
@[simp] theorem State.setLcd_out (b : Bool) : (s.setLcd b).out = s.out := rfl
@[simp] theorem State.setLcd_pending (b : Bool) : (s.setLcd b).pending = s.pending := rfl

/-! ### State.setResetn -/

@[simp] theorem State.setResetn_pins (b : Bool) : (s.setResetn b).pins = { s.pins with resetnLow := b } := rfl
@[simp] theorem State.setResetn_station (b : Bool) : (s.setResetn b).station = s.station := rfl
@[simp] theorem State.setResetn_cfg (b : Bool) : (s.setResetn b).cfg = s.cfg := rfl
@[simp] theorem State.setResetn_time (b : Bool) : (s.setResetn b).time = s.time := rfl
@[simp] theorem State.setResetn_phases (b : Bool) : (s.setResetn b).phases = s.phases := rfl
@[simp] theorem State.setResetn_meas (b : Bool) : (s.setResetn b).meas = s.meas := rfl
@[simp] theorem State.setResetn_conns (b : Bool) : (s.setResetn b).conns = s.conns := rfl
@[simp] theorem State.setResetn_engine (b : Bool) : (s.setResetn b).engine = s.engine := rfl
@[simp] theorem State.setResetn_budget (b : Bool) : (s.setResetn b).budget = s.budget := rfl
@[simp] theorem State.setResetn_line (b : Bool) : (s.setResetn b).line = s.line := rfl
@[simp] theorem State.setResetn_nbrs (b : Bool) : (s.setResetn b).nbrs = s.nbrs := rfl
@[simp] theorem State.setResetn_planner (b : Bool) : (s.setResetn b).planner = s.planner := rfl
@[simp] theorem State.setResetn_comps (b : Bool) : (s.setResetn b).comps = s.comps := rfl
@[simp] theorem State.setResetn_flags (b : Bool) : (s.setResetn b).flags = s.flags := rfl
@[simp] theorem State.setResetn_svc (b : Bool) : (s.setResetn b).svc = s.svc := rfl
@[simp] theorem State.setResetn_draws (b : Bool) : (s.setResetn b).draws = s.draws := rfl
@[simp] theorem State.setResetn_out (b : Bool) : (s.setResetn b).out = s.out := rfl
@[simp] theorem State.setResetn_pending (b : Bool) : (s.setResetn b).pending = s.pending := rfl

/-! ### Conn.second -/

@[simp] theorem Conn.second_st (c : Conn) : (c.second).st = if c.st = .resting ∧ c.dwell ≤ 1 then .steady else c.st := rfl
@[simp] theorem Conn.second_cur (c : Conn) : (c.second).cur = c.cur := rfl
@[simp] theorem Conn.second_dwell (c : Conn) : (c.second).dwell = c.dwell - 1 := rfl
@[simp] theorem Conn.second_attempts (c : Conn) : (c.second).attempts = c.attempts := rfl
@[simp] theorem Conn.second_releasePending (c : Conn) : (c.second).releasePending = c.releasePending := rfl
@[simp] theorem Conn.second_member (c : Conn) : (c.second).member = c.member.map fun k => { k with retry := k.retry - 1 } := rfl
@[simp] theorem Conn.second_note (c : Conn) : (c.second).note = c.note := rfl
@[simp] theorem Conn.second_unticked (c : Conn) : (c.second).unticked = false := rfl

/-! ### Conn.foundOn -/

@[simp] theorem Conn.foundOn_st (x : Phase) (b : Bool) (c : Conn) : (c.foundOn x b).st = if b then c.restOrSteady else .faulted := rfl
@[simp] theorem Conn.foundOn_cur (x : Phase) (b : Bool) (c : Conn) : (c.foundOn x b).cur = some x := rfl
@[simp] theorem Conn.foundOn_dwell (x : Phase) (b : Bool) (c : Conn) : (c.foundOn x b).dwell = c.dwell := rfl
@[simp] theorem Conn.foundOn_attempts (x : Phase) (b : Bool) (c : Conn) : (c.foundOn x b).attempts = c.attempts := rfl
@[simp] theorem Conn.foundOn_releasePending (x : Phase) (b : Bool) (c : Conn) : (c.foundOn x b).releasePending = c.releasePending := rfl
@[simp] theorem Conn.foundOn_member (x : Phase) (b : Bool) (c : Conn) : (c.foundOn x b).member = c.member := rfl
@[simp] theorem Conn.foundOn_note (x : Phase) (b : Bool) (c : Conn) : (c.foundOn x b).note = c.note := rfl
@[simp] theorem Conn.foundOn_unticked (x : Phase) (b : Bool) (c : Conn) : (c.foundOn x b).unticked = c.unticked := rfl

/-! ### Conn.leaveSet -/

@[simp] theorem Conn.leaveSet_st (c : Conn) : (c.leaveSet).st = c.st := rfl
@[simp] theorem Conn.leaveSet_cur (c : Conn) : (c.leaveSet).cur = c.cur := rfl
@[simp] theorem Conn.leaveSet_dwell (c : Conn) : (c.leaveSet).dwell = c.dwell := rfl
@[simp] theorem Conn.leaveSet_attempts (c : Conn) : (c.leaveSet).attempts = c.attempts := rfl
@[simp] theorem Conn.leaveSet_releasePending (c : Conn) : (c.leaveSet).releasePending = c.releasePending := rfl
@[simp] theorem Conn.leaveSet_member (c : Conn) : (c.leaveSet).member = none := rfl
@[simp] theorem Conn.leaveSet_note (c : Conn) : (c.leaveSet).note = c.note := rfl
@[simp] theorem Conn.leaveSet_unticked (c : Conn) : (c.leaveSet).unticked = c.unticked := rfl

end Sys2Proof.Machine
end

