-- ==== Sys2Proof/Laws/Frames.lean ====
section
/-! SUPPORT. One lemma for each shared operation: the fields of the state it leaves as they were, which is to say the fields it
may change. -/

namespace Sys2Proof.Machine

variable (s : State)

/-! ### Flags and the line block -/

@[simp] theorem State.setFlagIf_frame (b : Bool) (f : Flag) :
    (s.setFlagIf b f).pins = s.pins ∧ (s.setFlagIf b f).station = s.station ∧ (s.setFlagIf b f).cfg = s.cfg
    ∧ (s.setFlagIf b f).time = s.time ∧ (s.setFlagIf b f).phases = s.phases ∧ (s.setFlagIf b f).meas = s.meas
    ∧ (s.setFlagIf b f).conns = s.conns ∧ (s.setFlagIf b f).engine = s.engine
    ∧ (s.setFlagIf b f).budget = s.budget ∧ (s.setFlagIf b f).line = s.line ∧ (s.setFlagIf b f).nbrs = s.nbrs
    ∧ (s.setFlagIf b f).planner = s.planner ∧ (s.setFlagIf b f).comps = s.comps ∧ (s.setFlagIf b f).svc = s.svc
    ∧ (s.setFlagIf b f).draws = s.draws ∧ (s.setFlagIf b f).out = s.out ∧ (s.setFlagIf b f).pending = s.pending := by
  simp only [State.setFlagIf]
  (repeat' split) <;> simp

@[simp] theorem State.offer_frame (f : Line → Line) :
    (s.offer f).pins = s.pins ∧ (s.offer f).station = s.station ∧ (s.offer f).cfg = s.cfg
    ∧ (s.offer f).time = s.time ∧ (s.offer f).phases = s.phases ∧ (s.offer f).meas = s.meas
    ∧ (s.offer f).conns = s.conns ∧ (s.offer f).engine = s.engine ∧ (s.offer f).budget = s.budget
    ∧ (s.offer f).nbrs = s.nbrs ∧ (s.offer f).planner = s.planner ∧ (s.offer f).comps = s.comps
    ∧ (s.offer f).flags = s.flags ∧ (s.offer f).svc = s.svc ∧ (s.offer f).draws = s.draws
    ∧ (s.offer f).out = s.out ∧ (s.offer f).pending = s.pending := by
  simp only [State.offer]
  (repeat' split) <;> simp

@[simp] theorem State.offerHold_frame (d : Nat) (r : Reason) :
    (s.offerHold d r).pins = s.pins ∧ (s.offerHold d r).station = s.station ∧ (s.offerHold d r).cfg = s.cfg
    ∧ (s.offerHold d r).time = s.time ∧ (s.offerHold d r).phases = s.phases ∧ (s.offerHold d r).meas = s.meas
    ∧ (s.offerHold d r).conns = s.conns ∧ (s.offerHold d r).engine = s.engine
    ∧ (s.offerHold d r).budget = s.budget ∧ (s.offerHold d r).nbrs = s.nbrs
    ∧ (s.offerHold d r).planner = s.planner ∧ (s.offerHold d r).comps = s.comps
    ∧ (s.offerHold d r).flags = s.flags ∧ (s.offerHold d r).svc = s.svc ∧ (s.offerHold d r).draws = s.draws
    ∧ (s.offerHold d r).out = s.out ∧ (s.offerHold d r).pending = s.pending := by simp [State.offerHold]

@[simp] theorem State.offerOutcome_frame (n : Byte) (b : Bool) (r : List MoveResult) :
    (s.offerOutcome n b r).pins = s.pins ∧ (s.offerOutcome n b r).station = s.station
    ∧ (s.offerOutcome n b r).cfg = s.cfg ∧ (s.offerOutcome n b r).time = s.time
    ∧ (s.offerOutcome n b r).phases = s.phases ∧ (s.offerOutcome n b r).meas = s.meas
    ∧ (s.offerOutcome n b r).conns = s.conns ∧ (s.offerOutcome n b r).engine = s.engine
    ∧ (s.offerOutcome n b r).budget = s.budget ∧ (s.offerOutcome n b r).nbrs = s.nbrs
    ∧ (s.offerOutcome n b r).planner = s.planner ∧ (s.offerOutcome n b r).comps = s.comps
    ∧ (s.offerOutcome n b r).flags = s.flags ∧ (s.offerOutcome n b r).svc = s.svc
    ∧ (s.offerOutcome n b r).draws = s.draws ∧ (s.offerOutcome n b r).out = s.out
    ∧ (s.offerOutcome n b r).pending = s.pending := by
  simp only [State.offerOutcome]
  (repeat' split) <;> simp

@[simp] theorem State.offerIntent_frame (b : IntentBody) :
    (s.offerIntent b).pins = s.pins ∧ (s.offerIntent b).station = s.station ∧ (s.offerIntent b).cfg = s.cfg
    ∧ (s.offerIntent b).time = s.time ∧ (s.offerIntent b).phases = s.phases ∧ (s.offerIntent b).meas = s.meas
    ∧ (s.offerIntent b).conns = s.conns ∧ (s.offerIntent b).engine = s.engine
    ∧ (s.offerIntent b).budget = s.budget ∧ (s.offerIntent b).nbrs = s.nbrs
    ∧ (s.offerIntent b).planner = s.planner ∧ (s.offerIntent b).comps = s.comps
    ∧ (s.offerIntent b).flags = s.flags ∧ (s.offerIntent b).svc = s.svc ∧ (s.offerIntent b).draws = s.draws
    ∧ (s.offerIntent b).out = s.out ∧ (s.offerIntent b).pending = s.pending := by simp [State.offerIntent]

@[simp] theorem State.offerLoad_frame :
    (s.offerLoad).pins = s.pins ∧ (s.offerLoad).station = s.station ∧ (s.offerLoad).cfg = s.cfg
    ∧ (s.offerLoad).time = s.time ∧ (s.offerLoad).phases = s.phases ∧ (s.offerLoad).meas = s.meas
    ∧ (s.offerLoad).conns = s.conns ∧ (s.offerLoad).engine = s.engine ∧ (s.offerLoad).budget = s.budget
    ∧ (s.offerLoad).nbrs = s.nbrs ∧ (s.offerLoad).planner = s.planner ∧ (s.offerLoad).comps = s.comps
    ∧ (s.offerLoad).flags = s.flags ∧ (s.offerLoad).svc = s.svc ∧ (s.offerLoad).draws = s.draws
    ∧ (s.offerLoad).out = s.out ∧ (s.offerLoad).pending = s.pending := by simp [State.offerLoad]

@[simp] theorem State.ripen_frame (v : Vec) :
    (s.ripen v).pins = s.pins ∧ (s.ripen v).station = s.station ∧ (s.ripen v).cfg = s.cfg
    ∧ (s.ripen v).time = s.time ∧ (s.ripen v).phases = s.phases ∧ (s.ripen v).meas = s.meas
    ∧ (s.ripen v).conns = s.conns ∧ (s.ripen v).engine = s.engine ∧ (s.ripen v).budget = s.budget
    ∧ (s.ripen v).nbrs = s.nbrs ∧ (s.ripen v).planner = s.planner ∧ (s.ripen v).comps = s.comps
    ∧ (s.ripen v).flags = s.flags ∧ (s.ripen v).svc = s.svc ∧ (s.ripen v).draws = s.draws
    ∧ (s.ripen v).out = s.out ∧ (s.ripen v).pending = s.pending := by simp [State.ripen]

@[simp] theorem State.removeIntent_frame :
    (s.removeIntent).pins = s.pins ∧ (s.removeIntent).station = s.station ∧ (s.removeIntent).cfg = s.cfg
    ∧ (s.removeIntent).time = s.time ∧ (s.removeIntent).phases = s.phases ∧ (s.removeIntent).meas = s.meas
    ∧ (s.removeIntent).conns = s.conns ∧ (s.removeIntent).engine = s.engine ∧ (s.removeIntent).budget = s.budget
    ∧ (s.removeIntent).nbrs = s.nbrs ∧ (s.removeIntent).planner = s.planner ∧ (s.removeIntent).comps = s.comps
    ∧ (s.removeIntent).flags = s.flags ∧ (s.removeIntent).svc = s.svc ∧ (s.removeIntent).draws = s.draws
    ∧ (s.removeIntent).out = s.out ∧ (s.removeIntent).pending = s.pending := by simp [State.removeIntent]

@[simp] theorem State.startTransmission_frame :
    (s.startTransmission).pins = s.pins ∧ (s.startTransmission).station = s.station
    ∧ (s.startTransmission).cfg = s.cfg ∧ (s.startTransmission).time = s.time
    ∧ (s.startTransmission).phases = s.phases ∧ (s.startTransmission).meas = s.meas
    ∧ (s.startTransmission).conns = s.conns ∧ (s.startTransmission).engine = s.engine
    ∧ (s.startTransmission).budget = s.budget ∧ (s.startTransmission).nbrs = s.nbrs
    ∧ (s.startTransmission).planner = s.planner ∧ (s.startTransmission).comps = s.comps
    ∧ (s.startTransmission).flags = s.flags ∧ (s.startTransmission).svc = s.svc
    ∧ (s.startTransmission).draws = s.draws ∧ (s.startTransmission).pending = s.pending := by
  simp only [State.startTransmission]
  (repeat' split) <;> simp

@[simp] theorem State.gapComplete_frame :
    (s.gapComplete).pins = s.pins ∧ (s.gapComplete).station = s.station ∧ (s.gapComplete).cfg = s.cfg
    ∧ (s.gapComplete).time = s.time ∧ (s.gapComplete).phases = s.phases ∧ (s.gapComplete).meas = s.meas
    ∧ (s.gapComplete).conns = s.conns ∧ (s.gapComplete).engine = s.engine ∧ (s.gapComplete).budget = s.budget
    ∧ (s.gapComplete).nbrs = s.nbrs ∧ (s.gapComplete).planner = s.planner ∧ (s.gapComplete).comps = s.comps
    ∧ (s.gapComplete).flags = s.flags ∧ (s.gapComplete).svc = s.svc ∧ (s.gapComplete).pending = s.pending := by
  simp only [State.gapComplete]
  (repeat' split) <;> simp

@[simp] theorem State.accessCycle_frame :
    (s.accessCycle).pins = s.pins ∧ (s.accessCycle).station = s.station ∧ (s.accessCycle).cfg = s.cfg
    ∧ (s.accessCycle).time = s.time ∧ (s.accessCycle).phases = s.phases ∧ (s.accessCycle).meas = s.meas
    ∧ (s.accessCycle).conns = s.conns ∧ (s.accessCycle).engine = s.engine ∧ (s.accessCycle).budget = s.budget
    ∧ (s.accessCycle).nbrs = s.nbrs ∧ (s.accessCycle).planner = s.planner ∧ (s.accessCycle).comps = s.comps
    ∧ (s.accessCycle).flags = s.flags ∧ (s.accessCycle).svc = s.svc ∧ (s.accessCycle).pending = s.pending := by
  simp only [State.accessCycle]
  (repeat' split) <;> simp

@[simp] theorem State.accessCycles_frame (n : Nat) :
    (s.accessCycles n).pins = s.pins ∧ (s.accessCycles n).station = s.station ∧ (s.accessCycles n).cfg = s.cfg
    ∧ (s.accessCycles n).time = s.time ∧ (s.accessCycles n).phases = s.phases ∧ (s.accessCycles n).meas = s.meas
    ∧ (s.accessCycles n).conns = s.conns ∧ (s.accessCycles n).engine = s.engine
    ∧ (s.accessCycles n).budget = s.budget ∧ (s.accessCycles n).nbrs = s.nbrs
    ∧ (s.accessCycles n).planner = s.planner ∧ (s.accessCycles n).comps = s.comps
    ∧ (s.accessCycles n).flags = s.flags ∧ (s.accessCycles n).svc = s.svc ∧ (s.accessCycles n).pending = s.pending := by
  induction n generalizing s with
  | zero => simp [State.accessCycles]
  | succ n ih => simp [State.accessCycles, ih]

@[simp] theorem State.holdRemainingEnd_frame :
    (s.holdRemainingEnd).pins = s.pins ∧ (s.holdRemainingEnd).station = s.station
    ∧ (s.holdRemainingEnd).cfg = s.cfg ∧ (s.holdRemainingEnd).time = s.time
    ∧ (s.holdRemainingEnd).phases = s.phases ∧ (s.holdRemainingEnd).meas = s.meas
    ∧ (s.holdRemainingEnd).conns = s.conns ∧ (s.holdRemainingEnd).engine = s.engine
    ∧ (s.holdRemainingEnd).budget = s.budget ∧ (s.holdRemainingEnd).nbrs = s.nbrs
    ∧ (s.holdRemainingEnd).planner = s.planner ∧ (s.holdRemainingEnd).comps = s.comps
    ∧ (s.holdRemainingEnd).flags = s.flags ∧ (s.holdRemainingEnd).svc = s.svc
    ∧ (s.holdRemainingEnd).draws = s.draws ∧ (s.holdRemainingEnd).out = s.out
    ∧ (s.holdRemainingEnd).pending = s.pending := by
  simp only [State.holdRemainingEnd]
  (repeat' split) <;> simp

@[simp] theorem State.lcdRise_frame :
    (s.lcdRise).station = s.station ∧ (s.lcdRise).cfg = s.cfg ∧ (s.lcdRise).time = s.time
    ∧ (s.lcdRise).phases = s.phases ∧ (s.lcdRise).meas = s.meas ∧ (s.lcdRise).conns = s.conns
    ∧ (s.lcdRise).engine = s.engine ∧ (s.lcdRise).budget = s.budget ∧ (s.lcdRise).nbrs = s.nbrs
    ∧ (s.lcdRise).planner = s.planner ∧ (s.lcdRise).comps = s.comps ∧ (s.lcdRise).flags = s.flags
    ∧ (s.lcdRise).svc = s.svc ∧ (s.lcdRise).draws = s.draws ∧ (s.lcdRise).out = s.out
    ∧ (s.lcdRise).pending = s.pending := by
  simp only [State.lcdRise]
  (repeat' split) <;> simp

@[simp] theorem State.lcdFall_frame :
    (s.lcdFall).station = s.station ∧ (s.lcdFall).cfg = s.cfg ∧ (s.lcdFall).time = s.time
    ∧ (s.lcdFall).phases = s.phases ∧ (s.lcdFall).meas = s.meas ∧ (s.lcdFall).conns = s.conns
    ∧ (s.lcdFall).engine = s.engine ∧ (s.lcdFall).budget = s.budget ∧ (s.lcdFall).nbrs = s.nbrs
    ∧ (s.lcdFall).planner = s.planner ∧ (s.lcdFall).comps = s.comps ∧ (s.lcdFall).flags = s.flags
    ∧ (s.lcdFall).svc = s.svc ∧ (s.lcdFall).draws = s.draws ∧ (s.lcdFall).out = s.out
    ∧ (s.lcdFall).pending = s.pending := by
  simp only [State.lcdFall]
  (repeat' split) <;> simp

@[simp] theorem State.endAssembly_frame :
    (s.endAssembly).station = s.station ∧ (s.endAssembly).cfg = s.cfg ∧ (s.endAssembly).time = s.time
    ∧ (s.endAssembly).phases = s.phases ∧ (s.endAssembly).meas = s.meas ∧ (s.endAssembly).conns = s.conns
    ∧ (s.endAssembly).engine = s.engine ∧ (s.endAssembly).budget = s.budget ∧ (s.endAssembly).nbrs = s.nbrs
    ∧ (s.endAssembly).planner = s.planner ∧ (s.endAssembly).comps = s.comps ∧ (s.endAssembly).flags = s.flags
    ∧ (s.endAssembly).svc = s.svc ∧ (s.endAssembly).draws = s.draws ∧ (s.endAssembly).out = s.out
    ∧ (s.endAssembly).pending = s.pending := by simp [State.endAssembly]

/-! ### The planner -/

@[simp] theorem State.startEval_frame :
    (s.startEval).pins = s.pins ∧ (s.startEval).station = s.station ∧ (s.startEval).cfg = s.cfg
    ∧ (s.startEval).time = s.time ∧ (s.startEval).phases = s.phases ∧ (s.startEval).meas = s.meas
    ∧ (s.startEval).conns = s.conns ∧ (s.startEval).engine = s.engine ∧ (s.startEval).budget = s.budget
    ∧ (s.startEval).line = s.line ∧ (s.startEval).nbrs = s.nbrs ∧ (s.startEval).comps = s.comps
    ∧ (s.startEval).flags = s.flags ∧ (s.startEval).svc = s.svc ∧ (s.startEval).out = s.out
    ∧ (s.startEval).pending = s.pending := by simp [State.startEval]

@[simp] theorem State.startReport_frame :
    (s.startReport).pins = s.pins ∧ (s.startReport).station = s.station ∧ (s.startReport).cfg = s.cfg
    ∧ (s.startReport).time = s.time ∧ (s.startReport).phases = s.phases ∧ (s.startReport).meas = s.meas
    ∧ (s.startReport).conns = s.conns ∧ (s.startReport).engine = s.engine ∧ (s.startReport).budget = s.budget
    ∧ (s.startReport).line = s.line ∧ (s.startReport).nbrs = s.nbrs ∧ (s.startReport).comps = s.comps
    ∧ (s.startReport).flags = s.flags ∧ (s.startReport).svc = s.svc ∧ (s.startReport).out = s.out
    ∧ (s.startReport).pending = s.pending := by simp [State.startReport]

@[simp] theorem State.plannerIdle_frame :
    (s.plannerIdle).pins = s.pins ∧ (s.plannerIdle).station = s.station ∧ (s.plannerIdle).cfg = s.cfg
    ∧ (s.plannerIdle).time = s.time ∧ (s.plannerIdle).phases = s.phases ∧ (s.plannerIdle).meas = s.meas
    ∧ (s.plannerIdle).conns = s.conns ∧ (s.plannerIdle).engine = s.engine ∧ (s.plannerIdle).budget = s.budget
    ∧ (s.plannerIdle).line = s.line ∧ (s.plannerIdle).nbrs = s.nbrs ∧ (s.plannerIdle).comps = s.comps
    ∧ (s.plannerIdle).flags = s.flags ∧ (s.plannerIdle).svc = s.svc ∧ (s.plannerIdle).out = s.out
    ∧ (s.plannerIdle).pending = s.pending := by
  simp only [State.plannerIdle]
  (repeat' split) <;> simp

@[simp] theorem State.announce_frame (m : List Move) :
    (s.announce m).pins = s.pins ∧ (s.announce m).station = s.station ∧ (s.announce m).cfg = s.cfg
    ∧ (s.announce m).time = s.time ∧ (s.announce m).phases = s.phases ∧ (s.announce m).meas = s.meas
    ∧ (s.announce m).conns = s.conns ∧ (s.announce m).engine = s.engine ∧ (s.announce m).budget = s.budget
    ∧ (s.announce m).nbrs = s.nbrs ∧ (s.announce m).comps = s.comps ∧ (s.announce m).flags = s.flags
    ∧ (s.announce m).svc = s.svc ∧ (s.announce m).out = s.out ∧ (s.announce m).pending = s.pending := by
  simp only [State.announce]
  (repeat' split) <;> simp

@[simp] theorem State.evaluate_frame :
    (s.evaluate).pins = s.pins ∧ (s.evaluate).station = s.station ∧ (s.evaluate).cfg = s.cfg
    ∧ (s.evaluate).time = s.time ∧ (s.evaluate).phases = s.phases ∧ (s.evaluate).meas = s.meas
    ∧ (s.evaluate).conns = s.conns ∧ (s.evaluate).engine = s.engine ∧ (s.evaluate).budget = s.budget
    ∧ (s.evaluate).nbrs = s.nbrs ∧ (s.evaluate).comps = s.comps ∧ (s.evaluate).flags = s.flags
    ∧ (s.evaluate).svc = s.svc ∧ (s.evaluate).out = s.out ∧ (s.evaluate).pending = s.pending := by
  simp only [State.evaluate]
  (repeat' split) <;> simp

@[simp] theorem State.evalOnTrigger_frame :
    (s.evalOnTrigger).pins = s.pins ∧ (s.evalOnTrigger).station = s.station ∧ (s.evalOnTrigger).cfg = s.cfg
    ∧ (s.evalOnTrigger).time = s.time ∧ (s.evalOnTrigger).phases = s.phases ∧ (s.evalOnTrigger).meas = s.meas
    ∧ (s.evalOnTrigger).conns = s.conns ∧ (s.evalOnTrigger).engine = s.engine
    ∧ (s.evalOnTrigger).budget = s.budget ∧ (s.evalOnTrigger).nbrs = s.nbrs ∧ (s.evalOnTrigger).comps = s.comps
    ∧ (s.evalOnTrigger).flags = s.flags ∧ (s.evalOnTrigger).svc = s.svc ∧ (s.evalOnTrigger).out = s.out
    ∧ (s.evalOnTrigger).pending = s.pending := by
  simp only [State.evalOnTrigger]
  (repeat' split) <;> simp

@[simp] theorem State.withdraw_frame :
    (s.withdraw).pins = s.pins ∧ (s.withdraw).station = s.station ∧ (s.withdraw).cfg = s.cfg
    ∧ (s.withdraw).time = s.time ∧ (s.withdraw).phases = s.phases ∧ (s.withdraw).meas = s.meas
    ∧ (s.withdraw).conns = s.conns ∧ (s.withdraw).engine = s.engine ∧ (s.withdraw).budget = s.budget
    ∧ (s.withdraw).nbrs = s.nbrs ∧ (s.withdraw).comps = s.comps ∧ (s.withdraw).flags = s.flags
    ∧ (s.withdraw).svc = s.svc ∧ (s.withdraw).out = s.out ∧ (s.withdraw).pending = s.pending := by simp [State.withdraw]

@[simp] theorem State.concludePlan_frame :
    (s.concludePlan).pins = s.pins ∧ (s.concludePlan).station = s.station ∧ (s.concludePlan).cfg = s.cfg
    ∧ (s.concludePlan).time = s.time ∧ (s.concludePlan).phases = s.phases ∧ (s.concludePlan).meas = s.meas
    ∧ (s.concludePlan).conns = s.conns ∧ (s.concludePlan).engine = s.engine ∧ (s.concludePlan).budget = s.budget
    ∧ (s.concludePlan).nbrs = s.nbrs ∧ (s.concludePlan).comps = s.comps ∧ (s.concludePlan).svc = s.svc
    ∧ (s.concludePlan).out = s.out ∧ (s.concludePlan).pending = s.pending := by
  simp only [State.concludePlan]
  (repeat' split) <;> simp

@[simp] theorem State.planResult_frame (k : Nat) (r : MoveResult) :
    (s.planResult k r).pins = s.pins ∧ (s.planResult k r).station = s.station ∧ (s.planResult k r).cfg = s.cfg
    ∧ (s.planResult k r).time = s.time ∧ (s.planResult k r).phases = s.phases ∧ (s.planResult k r).meas = s.meas
    ∧ (s.planResult k r).conns = s.conns ∧ (s.planResult k r).engine = s.engine
    ∧ (s.planResult k r).budget = s.budget ∧ (s.planResult k r).nbrs = s.nbrs ∧ (s.planResult k r).comps = s.comps
    ∧ (s.planResult k r).svc = s.svc ∧ (s.planResult k r).out = s.out ∧ (s.planResult k r).pending = s.pending := by
  simp only [State.planResult]
  (repeat' split) <;> simp

@[simp] theorem State.ceaseOffering_frame :
    (s.ceaseOffering).pins = s.pins ∧ (s.ceaseOffering).station = s.station ∧ (s.ceaseOffering).cfg = s.cfg
    ∧ (s.ceaseOffering).time = s.time ∧ (s.ceaseOffering).phases = s.phases ∧ (s.ceaseOffering).meas = s.meas
    ∧ (s.ceaseOffering).conns = s.conns ∧ (s.ceaseOffering).engine = s.engine
    ∧ (s.ceaseOffering).budget = s.budget ∧ (s.ceaseOffering).nbrs = s.nbrs ∧ (s.ceaseOffering).comps = s.comps
    ∧ (s.ceaseOffering).svc = s.svc ∧ (s.ceaseOffering).out = s.out ∧ (s.ceaseOffering).pending = s.pending := by simp [State.ceaseOffering]

@[simp] theorem State.recheck_frame :
    (s.recheck).pins = s.pins ∧ (s.recheck).station = s.station ∧ (s.recheck).cfg = s.cfg
    ∧ (s.recheck).time = s.time ∧ (s.recheck).phases = s.phases ∧ (s.recheck).meas = s.meas
    ∧ (s.recheck).conns = s.conns ∧ (s.recheck).engine = s.engine ∧ (s.recheck).budget = s.budget
    ∧ (s.recheck).nbrs = s.nbrs ∧ (s.recheck).comps = s.comps ∧ (s.recheck).flags = s.flags
    ∧ (s.recheck).svc = s.svc ∧ (s.recheck).out = s.out ∧ (s.recheck).pending = s.pending := by
  simp only [State.recheck]
  (repeat' split) <;> simp

@[simp] theorem State.note_frame (n : Noted) :
    (s.note n).pins = s.pins ∧ (s.note n).station = s.station ∧ (s.note n).cfg = s.cfg
    ∧ (s.note n).time = s.time ∧ (s.note n).phases = s.phases ∧ (s.note n).meas = s.meas
    ∧ (s.note n).conns = s.conns ∧ (s.note n).engine = s.engine ∧ (s.note n).budget = s.budget
    ∧ (s.note n).line = s.line ∧ (s.note n).nbrs = s.nbrs ∧ (s.note n).comps = s.comps
    ∧ (s.note n).flags = s.flags ∧ (s.note n).svc = s.svc ∧ (s.note n).draws = s.draws ∧ (s.note n).out = s.out
    ∧ (s.note n).pending = s.pending := by simp [State.note]

@[simp] theorem State.rebuild_frame :
    (s.rebuild).pins = s.pins ∧ (s.rebuild).station = s.station ∧ (s.rebuild).cfg = s.cfg
    ∧ (s.rebuild).time = s.time ∧ (s.rebuild).phases = s.phases ∧ (s.rebuild).meas = s.meas
    ∧ (s.rebuild).conns = s.conns ∧ (s.rebuild).engine = s.engine ∧ (s.rebuild).budget = s.budget
    ∧ (s.rebuild).nbrs = s.nbrs ∧ (s.rebuild).comps = s.comps ∧ (s.rebuild).flags = s.flags
    ∧ (s.rebuild).svc = s.svc ∧ (s.rebuild).out = s.out ∧ (s.rebuild).pending = s.pending := by
  simp only [State.rebuild]
  (repeat' split) <;> simp

@[simp] theorem State.onPeerIntent_frame :
    (s.onPeerIntent).pins = s.pins ∧ (s.onPeerIntent).station = s.station ∧ (s.onPeerIntent).cfg = s.cfg
    ∧ (s.onPeerIntent).time = s.time ∧ (s.onPeerIntent).phases = s.phases ∧ (s.onPeerIntent).meas = s.meas
    ∧ (s.onPeerIntent).conns = s.conns ∧ (s.onPeerIntent).engine = s.engine ∧ (s.onPeerIntent).budget = s.budget
    ∧ (s.onPeerIntent).nbrs = s.nbrs ∧ (s.onPeerIntent).comps = s.comps ∧ (s.onPeerIntent).flags = s.flags
    ∧ (s.onPeerIntent).svc = s.svc ∧ (s.onPeerIntent).out = s.out ∧ (s.onPeerIntent).pending = s.pending := by
  simp only [State.onPeerIntent]
  (repeat' split) <;> simp

@[simp] theorem State.onSetback_frame (n : Noted) :
    (s.onSetback n).pins = s.pins ∧ (s.onSetback n).station = s.station ∧ (s.onSetback n).cfg = s.cfg
    ∧ (s.onSetback n).time = s.time ∧ (s.onSetback n).phases = s.phases ∧ (s.onSetback n).meas = s.meas
    ∧ (s.onSetback n).conns = s.conns ∧ (s.onSetback n).engine = s.engine ∧ (s.onSetback n).budget = s.budget
    ∧ (s.onSetback n).nbrs = s.nbrs ∧ (s.onSetback n).comps = s.comps ∧ (s.onSetback n).svc = s.svc
    ∧ (s.onSetback n).out = s.out ∧ (s.onSetback n).pending = s.pending := by
  simp only [State.onSetback]
  (repeat' split) <;> simp

@[simp] theorem State.becomesHeld_frame :
    (s.becomesHeld).pins = s.pins ∧ (s.becomesHeld).station = s.station ∧ (s.becomesHeld).cfg = s.cfg
    ∧ (s.becomesHeld).time = s.time ∧ (s.becomesHeld).phases = s.phases ∧ (s.becomesHeld).meas = s.meas
    ∧ (s.becomesHeld).conns = s.conns ∧ (s.becomesHeld).engine = s.engine ∧ (s.becomesHeld).budget = s.budget
    ∧ (s.becomesHeld).nbrs = s.nbrs ∧ (s.becomesHeld).comps = s.comps ∧ (s.becomesHeld).svc = s.svc
    ∧ (s.becomesHeld).out = s.out ∧ (s.becomesHeld).pending = s.pending := by simp [State.becomesHeld]

@[simp] theorem State.plannerPhaseLoss_frame :
    (s.plannerPhaseLoss).pins = s.pins ∧ (s.plannerPhaseLoss).station = s.station
    ∧ (s.plannerPhaseLoss).cfg = s.cfg ∧ (s.plannerPhaseLoss).time = s.time
    ∧ (s.plannerPhaseLoss).phases = s.phases ∧ (s.plannerPhaseLoss).meas = s.meas
    ∧ (s.plannerPhaseLoss).conns = s.conns ∧ (s.plannerPhaseLoss).engine = s.engine
    ∧ (s.plannerPhaseLoss).budget = s.budget ∧ (s.plannerPhaseLoss).nbrs = s.nbrs
    ∧ (s.plannerPhaseLoss).comps = s.comps ∧ (s.plannerPhaseLoss).svc = s.svc ∧ (s.plannerPhaseLoss).out = s.out
    ∧ (s.plannerPhaseLoss).pending = s.pending := by simp [State.plannerPhaseLoss]

@[simp] theorem State.issueHold_frame (d : Nat) (r : Reason) :
    (s.issueHold d r).pins = s.pins ∧ (s.issueHold d r).station = s.station ∧ (s.issueHold d r).cfg = s.cfg
    ∧ (s.issueHold d r).time = s.time ∧ (s.issueHold d r).phases = s.phases ∧ (s.issueHold d r).meas = s.meas
    ∧ (s.issueHold d r).conns = s.conns ∧ (s.issueHold d r).engine = s.engine
    ∧ (s.issueHold d r).budget = s.budget ∧ (s.issueHold d r).nbrs = s.nbrs ∧ (s.issueHold d r).comps = s.comps
    ∧ (s.issueHold d r).svc = s.svc ∧ (s.issueHold d r).out = s.out ∧ (s.issueHold d r).pending = s.pending := by
  simp only [State.issueHold]
  (repeat' split) <;> simp

@[simp] theorem State.takeNoted_frame (n : Noted) :
    (s.takeNoted n).pins = s.pins ∧ (s.takeNoted n).station = s.station ∧ (s.takeNoted n).cfg = s.cfg
    ∧ (s.takeNoted n).time = s.time ∧ (s.takeNoted n).phases = s.phases ∧ (s.takeNoted n).meas = s.meas
    ∧ (s.takeNoted n).conns = s.conns ∧ (s.takeNoted n).engine = s.engine ∧ (s.takeNoted n).budget = s.budget
    ∧ (s.takeNoted n).nbrs = s.nbrs ∧ (s.takeNoted n).comps = s.comps ∧ (s.takeNoted n).flags = s.flags
    ∧ (s.takeNoted n).svc = s.svc ∧ (s.takeNoted n).out = s.out ∧ (s.takeNoted n).pending = s.pending := by
  simp only [State.takeNoted]
  (repeat' split) <;> simp

@[simp] theorem State.announcement_frame (n : Byte) :
    (s.announcement n).pins = s.pins ∧ (s.announcement n).station = s.station ∧ (s.announcement n).cfg = s.cfg
    ∧ (s.announcement n).time = s.time ∧ (s.announcement n).phases = s.phases ∧ (s.announcement n).meas = s.meas
    ∧ (s.announcement n).conns = s.conns ∧ (s.announcement n).engine = s.engine
    ∧ (s.announcement n).budget = s.budget ∧ (s.announcement n).nbrs = s.nbrs ∧ (s.announcement n).comps = s.comps
    ∧ (s.announcement n).flags = s.flags ∧ (s.announcement n).svc = s.svc ∧ (s.announcement n).out = s.out
    ∧ (s.announcement n).pending = s.pending := by
  have h (l : List Noted) : ∀ t : State,
      ∃ p q d, l.foldl State.takeNoted t = { t with planner := p, line := q, draws := d } := by
    induction l with
    | nil => exact fun t => ⟨t.planner, t.line, t.draws, rfl⟩
    | cons x l ih =>
      intro t
      obtain ⟨p, q, d, he⟩ := ih (t.takeNoted x)
      refine ⟨p, q, d, ?_⟩
      rw [List.foldl_cons, he]
      simp
  simp only [State.announcement]
  split
  · obtain ⟨p, q, d, he⟩ := h s.planner.noted (s.drawn.modPlanner fun p =>
      { p with
        st := .awaiting
        announceT := none
        listenT := some (s.conf.listen + s.drawValue 1)
        lifetimeT := some s.conf.lifetime
        prec := s.pendingPairs
        noted := [] })
    simp [he]
  · simp

@[simp] theorem State.evaluationExpiry_frame :
    (s.evaluationExpiry).pins = s.pins ∧ (s.evaluationExpiry).station = s.station
    ∧ (s.evaluationExpiry).cfg = s.cfg ∧ (s.evaluationExpiry).time = s.time
    ∧ (s.evaluationExpiry).phases = s.phases ∧ (s.evaluationExpiry).meas = s.meas
    ∧ (s.evaluationExpiry).conns = s.conns ∧ (s.evaluationExpiry).engine = s.engine
    ∧ (s.evaluationExpiry).budget = s.budget ∧ (s.evaluationExpiry).nbrs = s.nbrs
    ∧ (s.evaluationExpiry).comps = s.comps ∧ (s.evaluationExpiry).flags = s.flags
    ∧ (s.evaluationExpiry).svc = s.svc ∧ (s.evaluationExpiry).out = s.out
    ∧ (s.evaluationExpiry).pending = s.pending := by
  simp only [State.evaluationExpiry]
  (repeat' split) <;> simp

@[simp] theorem State.reportExpiry_frame :
    (s.reportExpiry).pins = s.pins ∧ (s.reportExpiry).station = s.station ∧ (s.reportExpiry).cfg = s.cfg
    ∧ (s.reportExpiry).time = s.time ∧ (s.reportExpiry).phases = s.phases ∧ (s.reportExpiry).meas = s.meas
    ∧ (s.reportExpiry).conns = s.conns ∧ (s.reportExpiry).engine = s.engine ∧ (s.reportExpiry).budget = s.budget
    ∧ (s.reportExpiry).nbrs = s.nbrs ∧ (s.reportExpiry).comps = s.comps ∧ (s.reportExpiry).flags = s.flags
    ∧ (s.reportExpiry).svc = s.svc ∧ (s.reportExpiry).out = s.out ∧ (s.reportExpiry).pending = s.pending := by
  simp only [State.reportExpiry]
  (repeat' split) <;> simp

@[simp] theorem State.announceExpiry_frame :
    (s.announceExpiry).pins = s.pins ∧ (s.announceExpiry).station = s.station ∧ (s.announceExpiry).cfg = s.cfg
    ∧ (s.announceExpiry).time = s.time ∧ (s.announceExpiry).phases = s.phases ∧ (s.announceExpiry).meas = s.meas
    ∧ (s.announceExpiry).conns = s.conns ∧ (s.announceExpiry).engine = s.engine
    ∧ (s.announceExpiry).budget = s.budget ∧ (s.announceExpiry).nbrs = s.nbrs ∧ (s.announceExpiry).comps = s.comps
    ∧ (s.announceExpiry).svc = s.svc ∧ (s.announceExpiry).out = s.out ∧ (s.announceExpiry).pending = s.pending := by
  simp only [State.announceExpiry]
  (repeat' split) <;> simp

@[simp] theorem State.lifetimeExpiry_frame :
    (s.lifetimeExpiry).pins = s.pins ∧ (s.lifetimeExpiry).station = s.station ∧ (s.lifetimeExpiry).cfg = s.cfg
    ∧ (s.lifetimeExpiry).time = s.time ∧ (s.lifetimeExpiry).phases = s.phases ∧ (s.lifetimeExpiry).meas = s.meas
    ∧ (s.lifetimeExpiry).conns = s.conns ∧ (s.lifetimeExpiry).engine = s.engine
    ∧ (s.lifetimeExpiry).budget = s.budget ∧ (s.lifetimeExpiry).nbrs = s.nbrs ∧ (s.lifetimeExpiry).comps = s.comps
    ∧ (s.lifetimeExpiry).flags = s.flags ∧ (s.lifetimeExpiry).svc = s.svc ∧ (s.lifetimeExpiry).out = s.out
    ∧ (s.lifetimeExpiry).pending = s.pending := by
  simp only [State.lifetimeExpiry]
  (repeat' split) <;> simp

@[simp] theorem State.transmissionComplete_frame :
    (s.transmissionComplete).pins = s.pins ∧ (s.transmissionComplete).station = s.station
    ∧ (s.transmissionComplete).cfg = s.cfg ∧ (s.transmissionComplete).time = s.time
    ∧ (s.transmissionComplete).phases = s.phases ∧ (s.transmissionComplete).meas = s.meas
    ∧ (s.transmissionComplete).conns = s.conns ∧ (s.transmissionComplete).engine = s.engine
    ∧ (s.transmissionComplete).budget = s.budget ∧ (s.transmissionComplete).nbrs = s.nbrs
    ∧ (s.transmissionComplete).comps = s.comps ∧ (s.transmissionComplete).flags = s.flags
    ∧ (s.transmissionComplete).svc = s.svc ∧ (s.transmissionComplete).out = s.out
    ∧ (s.transmissionComplete).pending = s.pending := by
  simp only [State.transmissionComplete]
  (repeat' split) <;> simp

/-! ### The switching budget -/

@[simp] theorem State.budgetStart_frame :
    (s.budgetStart).pins = s.pins ∧ (s.budgetStart).station = s.station ∧ (s.budgetStart).cfg = s.cfg
    ∧ (s.budgetStart).time = s.time ∧ (s.budgetStart).phases = s.phases ∧ (s.budgetStart).meas = s.meas
    ∧ (s.budgetStart).conns = s.conns ∧ (s.budgetStart).engine = s.engine ∧ (s.budgetStart).line = s.line
    ∧ (s.budgetStart).nbrs = s.nbrs ∧ (s.budgetStart).planner = s.planner ∧ (s.budgetStart).comps = s.comps
    ∧ (s.budgetStart).svc = s.svc ∧ (s.budgetStart).draws = s.draws ∧ (s.budgetStart).out = s.out
    ∧ (s.budgetStart).pending = s.pending := by
  simp only [State.budgetStart]
  (repeat' split) <;> simp

@[simp] theorem State.startBudget_frame :
    (s.startBudget).pins = s.pins ∧ (s.startBudget).station = s.station ∧ (s.startBudget).cfg = s.cfg
    ∧ (s.startBudget).time = s.time ∧ (s.startBudget).phases = s.phases ∧ (s.startBudget).meas = s.meas
    ∧ (s.startBudget).conns = s.conns ∧ (s.startBudget).engine = s.engine ∧ (s.startBudget).line = s.line
    ∧ (s.startBudget).nbrs = s.nbrs ∧ (s.startBudget).planner = s.planner ∧ (s.startBudget).comps = s.comps
    ∧ (s.startBudget).flags = s.flags ∧ (s.startBudget).svc = s.svc ∧ (s.startBudget).draws = s.draws
    ∧ (s.startBudget).out = s.out ∧ (s.startBudget).pending = s.pending := by
  simp only [State.startBudget]
  (repeat' split) <;> simp

@[simp] theorem State.samplingEnd_frame :
    (s.samplingEnd).pins = s.pins ∧ (s.samplingEnd).station = s.station ∧ (s.samplingEnd).cfg = s.cfg
    ∧ (s.samplingEnd).time = s.time ∧ (s.samplingEnd).phases = s.phases ∧ (s.samplingEnd).meas = s.meas
    ∧ (s.samplingEnd).conns = s.conns ∧ (s.samplingEnd).engine = s.engine ∧ (s.samplingEnd).line = s.line
    ∧ (s.samplingEnd).nbrs = s.nbrs ∧ (s.samplingEnd).planner = s.planner ∧ (s.samplingEnd).comps = s.comps
    ∧ (s.samplingEnd).flags = s.flags ∧ (s.samplingEnd).svc = s.svc ∧ (s.samplingEnd).draws = s.draws
    ∧ (s.samplingEnd).out = s.out ∧ (s.samplingEnd).pending = s.pending := by simp [State.samplingEnd]

@[simp] theorem State.monitoringEnd_frame :
    (s.monitoringEnd).pins = s.pins ∧ (s.monitoringEnd).station = s.station ∧ (s.monitoringEnd).cfg = s.cfg
    ∧ (s.monitoringEnd).time = s.time ∧ (s.monitoringEnd).phases = s.phases ∧ (s.monitoringEnd).meas = s.meas
    ∧ (s.monitoringEnd).conns = s.conns ∧ (s.monitoringEnd).engine = s.engine ∧ (s.monitoringEnd).line = s.line
    ∧ (s.monitoringEnd).nbrs = s.nbrs ∧ (s.monitoringEnd).planner = s.planner ∧ (s.monitoringEnd).comps = s.comps
    ∧ (s.monitoringEnd).flags = s.flags ∧ (s.monitoringEnd).svc = s.svc ∧ (s.monitoringEnd).draws = s.draws
    ∧ (s.monitoringEnd).out = s.out ∧ (s.monitoringEnd).pending = s.pending := by simp [State.monitoringEnd]

@[simp] theorem State.throttleEnd_frame :
    (s.throttleEnd).pins = s.pins ∧ (s.throttleEnd).station = s.station ∧ (s.throttleEnd).cfg = s.cfg
    ∧ (s.throttleEnd).time = s.time ∧ (s.throttleEnd).phases = s.phases ∧ (s.throttleEnd).meas = s.meas
    ∧ (s.throttleEnd).conns = s.conns ∧ (s.throttleEnd).engine = s.engine ∧ (s.throttleEnd).line = s.line
    ∧ (s.throttleEnd).nbrs = s.nbrs ∧ (s.throttleEnd).planner = s.planner ∧ (s.throttleEnd).comps = s.comps
    ∧ (s.throttleEnd).flags = s.flags ∧ (s.throttleEnd).svc = s.svc ∧ (s.throttleEnd).draws = s.draws
    ∧ (s.throttleEnd).out = s.out ∧ (s.throttleEnd).pending = s.pending := by simp [State.throttleEnd]

/-! ### The transfer engine -/

@[simp] theorem State.appendRescue_frame (x : Phase) (i : Nat) :
    (State.appendRescue x s i).pins = s.pins ∧ (State.appendRescue x s i).station = s.station
    ∧ (State.appendRescue x s i).cfg = s.cfg ∧ (State.appendRescue x s i).time = s.time
    ∧ (State.appendRescue x s i).phases = s.phases ∧ (State.appendRescue x s i).meas = s.meas
    ∧ (State.appendRescue x s i).conns = s.conns ∧ (State.appendRescue x s i).budget = s.budget
    ∧ (State.appendRescue x s i).line = s.line ∧ (State.appendRescue x s i).nbrs = s.nbrs
    ∧ (State.appendRescue x s i).planner = s.planner ∧ (State.appendRescue x s i).comps = s.comps
    ∧ (State.appendRescue x s i).flags = s.flags ∧ (State.appendRescue x s i).svc = s.svc
    ∧ (State.appendRescue x s i).draws = s.draws ∧ (State.appendRescue x s i).out = s.out
    ∧ (State.appendRescue x s i).pending = s.pending := by
  simp only [State.appendRescue]
  (repeat' split) <;> simp

@[simp] theorem State.appendSelected_frame (x : Phase) :
    (s.appendSelected x).pins = s.pins ∧ (s.appendSelected x).station = s.station
    ∧ (s.appendSelected x).cfg = s.cfg ∧ (s.appendSelected x).time = s.time
    ∧ (s.appendSelected x).phases = s.phases ∧ (s.appendSelected x).meas = s.meas
    ∧ (s.appendSelected x).conns = s.conns ∧ (s.appendSelected x).budget = s.budget
    ∧ (s.appendSelected x).line = s.line ∧ (s.appendSelected x).nbrs = s.nbrs
    ∧ (s.appendSelected x).planner = s.planner ∧ (s.appendSelected x).comps = s.comps
    ∧ (s.appendSelected x).flags = s.flags ∧ (s.appendSelected x).svc = s.svc
    ∧ (s.appendSelected x).draws = s.draws ∧ (s.appendSelected x).out = s.out
    ∧ (s.appendSelected x).pending = s.pending := by
  have h (l : List Nat) : ∀ t : State, ∃ e, l.foldl (State.appendRescue x) t = { t with engine := e } := by
    induction l with
    | nil => exact fun t => ⟨t.engine, rfl⟩
    | cons i l ih =>
      intro t
      obtain ⟨e, he⟩ := ih (t.appendRescue x i)
      refine ⟨e, ?_⟩
      rw [List.foldl_cons, he, State.appendRescue]
      split <;> rfl
  obtain ⟨e, he⟩ := h ((List.range 32).filter fun i => s.rescueSelected x i) s
  unfold State.appendSelected
  split
  · simp [he]
  · simp

@[simp] theorem State.appendStranded_frame (i : Nat) :
    (s.appendStranded i).pins = s.pins ∧ (s.appendStranded i).station = s.station
    ∧ (s.appendStranded i).cfg = s.cfg ∧ (s.appendStranded i).time = s.time
    ∧ (s.appendStranded i).phases = s.phases ∧ (s.appendStranded i).meas = s.meas
    ∧ (s.appendStranded i).conns = s.conns ∧ (s.appendStranded i).budget = s.budget
    ∧ (s.appendStranded i).line = s.line ∧ (s.appendStranded i).nbrs = s.nbrs
    ∧ (s.appendStranded i).planner = s.planner ∧ (s.appendStranded i).comps = s.comps
    ∧ (s.appendStranded i).flags = s.flags ∧ (s.appendStranded i).svc = s.svc
    ∧ (s.appendStranded i).draws = s.draws ∧ (s.appendStranded i).out = s.out
    ∧ (s.appendStranded i).pending = s.pending := by
  simp only [State.appendStranded]
  (repeat' split) <;> simp

@[simp] theorem State.rescueEmptied_frame :
    (s.rescueEmptied).pins = s.pins ∧ (s.rescueEmptied).station = s.station ∧ (s.rescueEmptied).cfg = s.cfg
    ∧ (s.rescueEmptied).time = s.time ∧ (s.rescueEmptied).phases = s.phases ∧ (s.rescueEmptied).meas = s.meas
    ∧ (s.rescueEmptied).conns = s.conns ∧ (s.rescueEmptied).budget = s.budget ∧ (s.rescueEmptied).nbrs = s.nbrs
    ∧ (s.rescueEmptied).planner = s.planner ∧ (s.rescueEmptied).comps = s.comps ∧ (s.rescueEmptied).svc = s.svc
    ∧ (s.rescueEmptied).draws = s.draws ∧ (s.rescueEmptied).out = s.out ∧ (s.rescueEmptied).pending = s.pending := by
  simp only [State.rescueEmptied]
  (repeat' split) <;> simp

@[simp] theorem State.takeMove_frame (m : MoveReq) :
    (s.takeMove m).pins = s.pins ∧ (s.takeMove m).station = s.station ∧ (s.takeMove m).cfg = s.cfg
    ∧ (s.takeMove m).time = s.time ∧ (s.takeMove m).phases = s.phases ∧ (s.takeMove m).budget = s.budget
    ∧ (s.takeMove m).line = s.line ∧ (s.takeMove m).nbrs = s.nbrs ∧ (s.takeMove m).planner = s.planner
    ∧ (s.takeMove m).comps = s.comps ∧ (s.takeMove m).flags = s.flags ∧ (s.takeMove m).svc = s.svc
    ∧ (s.takeMove m).draws = s.draws ∧ (s.takeMove m).pending = s.pending := by simp [State.takeMove]

@[simp] theorem State.takePlanMove_frame (k : Nat) (m : Move) :
    (s.takePlanMove k m).pins = s.pins ∧ (s.takePlanMove k m).station = s.station
    ∧ (s.takePlanMove k m).cfg = s.cfg ∧ (s.takePlanMove k m).time = s.time
    ∧ (s.takePlanMove k m).phases = s.phases ∧ (s.takePlanMove k m).budget = s.budget
    ∧ (s.takePlanMove k m).nbrs = s.nbrs ∧ (s.takePlanMove k m).comps = s.comps ∧ (s.takePlanMove k m).svc = s.svc
    ∧ (s.takePlanMove k m).pending = s.pending := by
  simp only [State.takePlanMove]
  (repeat' split) <;> simp

@[simp] theorem State.takeRescue_frame (x : RescueEntry) :
    (s.takeRescue x).pins = s.pins ∧ (s.takeRescue x).station = s.station ∧ (s.takeRescue x).cfg = s.cfg
    ∧ (s.takeRescue x).time = s.time ∧ (s.takeRescue x).phases = s.phases ∧ (s.takeRescue x).budget = s.budget
    ∧ (s.takeRescue x).nbrs = s.nbrs ∧ (s.takeRescue x).planner = s.planner ∧ (s.takeRescue x).comps = s.comps
    ∧ (s.takeRescue x).svc = s.svc ∧ (s.takeRescue x).draws = s.draws ∧ (s.takeRescue x).pending = s.pending := by
  simp only [State.takeRescue]
  (repeat' split) <;> simp

@[simp] theorem State.takeMember_frame (i : Nat) (k : RecKind) :
    (s.takeMember i k).pins = s.pins ∧ (s.takeMember i k).station = s.station ∧ (s.takeMember i k).cfg = s.cfg
    ∧ (s.takeMember i k).time = s.time ∧ (s.takeMember i k).phases = s.phases ∧ (s.takeMember i k).meas = s.meas
    ∧ (s.takeMember i k).conns = s.conns ∧ (s.takeMember i k).budget = s.budget ∧ (s.takeMember i k).line = s.line
    ∧ (s.takeMember i k).nbrs = s.nbrs ∧ (s.takeMember i k).planner = s.planner
    ∧ (s.takeMember i k).comps = s.comps ∧ (s.takeMember i k).flags = s.flags ∧ (s.takeMember i k).svc = s.svc
    ∧ (s.takeMember i k).draws = s.draws ∧ (s.takeMember i k).pending = s.pending := by
  simp only [State.takeMember]
  (repeat' split) <;> simp

@[simp] theorem State.takeInventory_frame :
    (s.takeInventory).pins = s.pins ∧ (s.takeInventory).station = s.station ∧ (s.takeInventory).cfg = s.cfg
    ∧ (s.takeInventory).time = s.time ∧ (s.takeInventory).phases = s.phases ∧ (s.takeInventory).meas = s.meas
    ∧ (s.takeInventory).conns = s.conns ∧ (s.takeInventory).budget = s.budget ∧ (s.takeInventory).line = s.line
    ∧ (s.takeInventory).nbrs = s.nbrs ∧ (s.takeInventory).planner = s.planner ∧ (s.takeInventory).comps = s.comps
    ∧ (s.takeInventory).flags = s.flags ∧ (s.takeInventory).svc = s.svc ∧ (s.takeInventory).draws = s.draws
    ∧ (s.takeInventory).pending = s.pending := by
  simp only [State.takeInventory]
  (repeat' split) <;> simp

@[simp] theorem State.arbiter_frame (n : Nat) :
    (s.arbiter n).pins = s.pins ∧ (s.arbiter n).station = s.station ∧ (s.arbiter n).cfg = s.cfg
    ∧ (s.arbiter n).time = s.time ∧ (s.arbiter n).phases = s.phases ∧ (s.arbiter n).budget = s.budget
    ∧ (s.arbiter n).nbrs = s.nbrs ∧ (s.arbiter n).comps = s.comps ∧ (s.arbiter n).svc = s.svc
    ∧ (s.arbiter n).pending = s.pending := by
  induction n generalizing s with
  | zero => simp [State.arbiter]
  | succ n ih =>
    simp only [State.arbiter]
    (repeat' split) <;> simp [ih]

@[simp] theorem State.arbitrate_frame :
    (s.arbitrate).pins = s.pins ∧ (s.arbitrate).station = s.station ∧ (s.arbitrate).cfg = s.cfg
    ∧ (s.arbitrate).time = s.time ∧ (s.arbitrate).phases = s.phases ∧ (s.arbitrate).budget = s.budget
    ∧ (s.arbitrate).nbrs = s.nbrs ∧ (s.arbitrate).comps = s.comps ∧ (s.arbitrate).svc = s.svc
    ∧ (s.arbitrate).pending = s.pending := by simp [State.arbitrate]

@[simp] theorem State.flagConclusion_frame (a b c : Bool) (k : Conclusion) :
    (s.flagConclusion a b c k).pins = s.pins ∧ (s.flagConclusion a b c k).station = s.station
    ∧ (s.flagConclusion a b c k).cfg = s.cfg ∧ (s.flagConclusion a b c k).time = s.time
    ∧ (s.flagConclusion a b c k).phases = s.phases ∧ (s.flagConclusion a b c k).meas = s.meas
    ∧ (s.flagConclusion a b c k).conns = s.conns ∧ (s.flagConclusion a b c k).engine = s.engine
    ∧ (s.flagConclusion a b c k).budget = s.budget ∧ (s.flagConclusion a b c k).line = s.line
    ∧ (s.flagConclusion a b c k).nbrs = s.nbrs ∧ (s.flagConclusion a b c k).planner = s.planner
    ∧ (s.flagConclusion a b c k).comps = s.comps ∧ (s.flagConclusion a b c k).svc = s.svc
    ∧ (s.flagConclusion a b c k).draws = s.draws ∧ (s.flagConclusion a b c k).out = s.out
    ∧ (s.flagConclusion a b c k).pending = s.pending := by
  simp only [State.flagConclusion]
  (repeat' split) <;> simp

@[simp] theorem State.recordConclusion_frame (m : MoveReq) (k : Conclusion) :
    (s.recordConclusion m k).pins = s.pins ∧ (s.recordConclusion m k).station = s.station
    ∧ (s.recordConclusion m k).cfg = s.cfg ∧ (s.recordConclusion m k).time = s.time
    ∧ (s.recordConclusion m k).phases = s.phases ∧ (s.recordConclusion m k).budget = s.budget
    ∧ (s.recordConclusion m k).line = s.line ∧ (s.recordConclusion m k).nbrs = s.nbrs
    ∧ (s.recordConclusion m k).planner = s.planner ∧ (s.recordConclusion m k).comps = s.comps
    ∧ (s.recordConclusion m k).flags = s.flags ∧ (s.recordConclusion m k).svc = s.svc
    ∧ (s.recordConclusion m k).draws = s.draws ∧ (s.recordConclusion m k).out = s.out
    ∧ (s.recordConclusion m k).pending = s.pending := by
  simp only [State.recordConclusion]
  (repeat' split) <;> simp

@[simp] theorem State.concludeMove_frame (m : MoveReq) (k : Conclusion) (a b : Bool) :
    (s.concludeMove m k a b).pins = s.pins ∧ (s.concludeMove m k a b).station = s.station
    ∧ (s.concludeMove m k a b).cfg = s.cfg ∧ (s.concludeMove m k a b).time = s.time
    ∧ (s.concludeMove m k a b).phases = s.phases ∧ (s.concludeMove m k a b).budget = s.budget
    ∧ (s.concludeMove m k a b).nbrs = s.nbrs ∧ (s.concludeMove m k a b).comps = s.comps
    ∧ (s.concludeMove m k a b).svc = s.svc ∧ (s.concludeMove m k a b).pending = s.pending := by
  simp only [State.concludeMove]
  (repeat' split) <;> simp

@[simp] theorem State.atStep_frame (m : MoveReq) (p : MoveStep) (n : Nat) :
    (s.atStep m p n).pins = s.pins ∧ (s.atStep m p n).station = s.station ∧ (s.atStep m p n).cfg = s.cfg
    ∧ (s.atStep m p n).time = s.time ∧ (s.atStep m p n).phases = s.phases ∧ (s.atStep m p n).meas = s.meas
    ∧ (s.atStep m p n).conns = s.conns ∧ (s.atStep m p n).budget = s.budget ∧ (s.atStep m p n).line = s.line
    ∧ (s.atStep m p n).nbrs = s.nbrs ∧ (s.atStep m p n).planner = s.planner ∧ (s.atStep m p n).comps = s.comps
    ∧ (s.atStep m p n).flags = s.flags ∧ (s.atStep m p n).svc = s.svc ∧ (s.atStep m p n).draws = s.draws
    ∧ (s.atStep m p n).out = s.out ∧ (s.atStep m p n).pending = s.pending := by simp [State.atStep]

@[simp] theorem State.sendBreak_frame (m : MoveReq) :
    (s.sendBreak m).pins = s.pins ∧ (s.sendBreak m).station = s.station ∧ (s.sendBreak m).cfg = s.cfg
    ∧ (s.sendBreak m).time = s.time ∧ (s.sendBreak m).phases = s.phases ∧ (s.sendBreak m).meas = s.meas
    ∧ (s.sendBreak m).conns = s.conns ∧ (s.sendBreak m).budget = s.budget ∧ (s.sendBreak m).line = s.line
    ∧ (s.sendBreak m).nbrs = s.nbrs ∧ (s.sendBreak m).planner = s.planner ∧ (s.sendBreak m).comps = s.comps
    ∧ (s.sendBreak m).flags = s.flags ∧ (s.sendBreak m).svc = s.svc ∧ (s.sendBreak m).draws = s.draws
    ∧ (s.sendBreak m).pending = s.pending := by simp [State.sendBreak]

@[simp] theorem State.enterBreaking_frame (m : MoveReq) :
    (s.enterBreaking m).pins = s.pins ∧ (s.enterBreaking m).station = s.station
    ∧ (s.enterBreaking m).cfg = s.cfg ∧ (s.enterBreaking m).time = s.time ∧ (s.enterBreaking m).phases = s.phases
    ∧ (s.enterBreaking m).meas = s.meas ∧ (s.enterBreaking m).conns = s.conns
    ∧ (s.enterBreaking m).budget = s.budget ∧ (s.enterBreaking m).line = s.line
    ∧ (s.enterBreaking m).nbrs = s.nbrs ∧ (s.enterBreaking m).planner = s.planner
    ∧ (s.enterBreaking m).comps = s.comps ∧ (s.enterBreaking m).flags = s.flags ∧ (s.enterBreaking m).svc = s.svc
    ∧ (s.enterBreaking m).draws = s.draws ∧ (s.enterBreaking m).pending = s.pending := by
  simp only [State.enterBreaking]
  (repeat' split) <;> simp

@[simp] theorem State.failFallback_frame (m : MoveReq) :
    (s.failFallback m).pins = s.pins ∧ (s.failFallback m).station = s.station ∧ (s.failFallback m).cfg = s.cfg
    ∧ (s.failFallback m).time = s.time ∧ (s.failFallback m).phases = s.phases
    ∧ (s.failFallback m).budget = s.budget ∧ (s.failFallback m).nbrs = s.nbrs ∧ (s.failFallback m).comps = s.comps
    ∧ (s.failFallback m).svc = s.svc ∧ (s.failFallback m).pending = s.pending := by simp [State.failFallback]

@[simp] theorem State.enterFallback_frame (m : MoveReq) :
    (s.enterFallback m).pins = s.pins ∧ (s.enterFallback m).station = s.station
    ∧ (s.enterFallback m).cfg = s.cfg ∧ (s.enterFallback m).time = s.time ∧ (s.enterFallback m).phases = s.phases
    ∧ (s.enterFallback m).budget = s.budget ∧ (s.enterFallback m).nbrs = s.nbrs
    ∧ (s.enterFallback m).comps = s.comps ∧ (s.enterFallback m).svc = s.svc
    ∧ (s.enterFallback m).pending = s.pending := by
  simp only [State.enterFallback]
  (repeat' split) <;> simp

@[simp] theorem State.enterGap_frame (m : MoveReq) :
    (s.enterGap m).pins = s.pins ∧ (s.enterGap m).station = s.station ∧ (s.enterGap m).cfg = s.cfg
    ∧ (s.enterGap m).time = s.time ∧ (s.enterGap m).phases = s.phases ∧ (s.enterGap m).budget = s.budget
    ∧ (s.enterGap m).nbrs = s.nbrs ∧ (s.enterGap m).comps = s.comps ∧ (s.enterGap m).svc = s.svc
    ∧ (s.enterGap m).pending = s.pending := by
  simp only [State.enterGap]
  (repeat' split) <;> simp

@[simp] theorem State.enterSettling_frame (m : MoveReq) :
    (s.enterSettling m).pins = s.pins ∧ (s.enterSettling m).station = s.station
    ∧ (s.enterSettling m).cfg = s.cfg ∧ (s.enterSettling m).time = s.time ∧ (s.enterSettling m).phases = s.phases
    ∧ (s.enterSettling m).budget = s.budget ∧ (s.enterSettling m).nbrs = s.nbrs
    ∧ (s.enterSettling m).comps = s.comps ∧ (s.enterSettling m).svc = s.svc
    ∧ (s.enterSettling m).pending = s.pending := by
  simp only [State.enterSettling]
  (repeat' split) <;> simp

@[simp] theorem State.endSettling_frame :
    (s.endSettling).pins = s.pins ∧ (s.endSettling).station = s.station ∧ (s.endSettling).cfg = s.cfg
    ∧ (s.endSettling).time = s.time ∧ (s.endSettling).phases = s.phases ∧ (s.endSettling).budget = s.budget
    ∧ (s.endSettling).nbrs = s.nbrs ∧ (s.endSettling).comps = s.comps ∧ (s.endSettling).svc = s.svc
    ∧ (s.endSettling).pending = s.pending := by
  simp only [State.endSettling]
  (repeat' split) <;> simp

@[simp] theorem State.finishRecovery_frame (i : Nat) :
    (s.finishRecovery i).pins = s.pins ∧ (s.finishRecovery i).station = s.station
    ∧ (s.finishRecovery i).cfg = s.cfg ∧ (s.finishRecovery i).time = s.time
    ∧ (s.finishRecovery i).phases = s.phases ∧ (s.finishRecovery i).budget = s.budget
    ∧ (s.finishRecovery i).nbrs = s.nbrs ∧ (s.finishRecovery i).comps = s.comps ∧ (s.finishRecovery i).svc = s.svc
    ∧ (s.finishRecovery i).pending = s.pending := by simp [State.finishRecovery]

@[simp] theorem State.recoveredOn_frame (i : Nat) (x : Phase) (b : Bool) :
    (s.recoveredOn i x b).pins = s.pins ∧ (s.recoveredOn i x b).station = s.station
    ∧ (s.recoveredOn i x b).cfg = s.cfg ∧ (s.recoveredOn i x b).time = s.time
    ∧ (s.recoveredOn i x b).phases = s.phases ∧ (s.recoveredOn i x b).budget = s.budget
    ∧ (s.recoveredOn i x b).nbrs = s.nbrs ∧ (s.recoveredOn i x b).comps = s.comps
    ∧ (s.recoveredOn i x b).svc = s.svc ∧ (s.recoveredOn i x b).pending = s.pending := by simp [State.recoveredOn]

@[simp] theorem State.attemptFailed_frame (i : Nat) :
    (s.attemptFailed i).pins = s.pins ∧ (s.attemptFailed i).station = s.station
    ∧ (s.attemptFailed i).cfg = s.cfg ∧ (s.attemptFailed i).time = s.time ∧ (s.attemptFailed i).phases = s.phases
    ∧ (s.attemptFailed i).budget = s.budget ∧ (s.attemptFailed i).nbrs = s.nbrs
    ∧ (s.attemptFailed i).comps = s.comps ∧ (s.attemptFailed i).svc = s.svc
    ∧ (s.attemptFailed i).pending = s.pending := by simp [State.attemptFailed]

@[simp] theorem State.attemptNotMade_frame (i : Nat) :
    (s.attemptNotMade i).pins = s.pins ∧ (s.attemptNotMade i).station = s.station
    ∧ (s.attemptNotMade i).cfg = s.cfg ∧ (s.attemptNotMade i).time = s.time
    ∧ (s.attemptNotMade i).phases = s.phases ∧ (s.attemptNotMade i).budget = s.budget
    ∧ (s.attemptNotMade i).nbrs = s.nbrs ∧ (s.attemptNotMade i).comps = s.comps ∧ (s.attemptNotMade i).svc = s.svc
    ∧ (s.attemptNotMade i).pending = s.pending := by simp [State.attemptNotMade]

@[simp] theorem State.recoverDark_frame (i : Nat) :
    (s.recoverDark i).pins = s.pins ∧ (s.recoverDark i).station = s.station ∧ (s.recoverDark i).cfg = s.cfg
    ∧ (s.recoverDark i).time = s.time ∧ (s.recoverDark i).phases = s.phases ∧ (s.recoverDark i).budget = s.budget
    ∧ (s.recoverDark i).nbrs = s.nbrs ∧ (s.recoverDark i).comps = s.comps ∧ (s.recoverDark i).svc = s.svc
    ∧ (s.recoverDark i).pending = s.pending := by
  simp only [State.recoverDark]
  (repeat' split) <;> simp

@[simp] theorem State.releaseChecked_frame (i : Nat) (a : Option (Option Phase)) :
    (s.releaseChecked i a).pins = s.pins ∧ (s.releaseChecked i a).station = s.station
    ∧ (s.releaseChecked i a).cfg = s.cfg ∧ (s.releaseChecked i a).time = s.time
    ∧ (s.releaseChecked i a).phases = s.phases ∧ (s.releaseChecked i a).budget = s.budget
    ∧ (s.releaseChecked i a).nbrs = s.nbrs ∧ (s.releaseChecked i a).comps = s.comps
    ∧ (s.releaseChecked i a).svc = s.svc ∧ (s.releaseChecked i a).pending = s.pending := by simp [State.releaseChecked]

/-! ### Station mode and phase events -/

@[simp] theorem State.enterListenOnly_frame :
    (s.enterListenOnly).pins = s.pins ∧ (s.enterListenOnly).cfg = s.cfg ∧ (s.enterListenOnly).time = s.time
    ∧ (s.enterListenOnly).phases = s.phases ∧ (s.enterListenOnly).budget = s.budget
    ∧ (s.enterListenOnly).nbrs = s.nbrs ∧ (s.enterListenOnly).comps = s.comps ∧ (s.enterListenOnly).svc = s.svc
    ∧ (s.enterListenOnly).pending = s.pending := by simp [State.enterListenOnly]

@[simp] theorem State.enterActive_frame :
    (s.enterActive).pins = s.pins ∧ (s.enterActive).cfg = s.cfg ∧ (s.enterActive).time = s.time
    ∧ (s.enterActive).phases = s.phases ∧ (s.enterActive).nbrs = s.nbrs ∧ (s.enterActive).comps = s.comps
    ∧ (s.enterActive).svc = s.svc ∧ (s.enterActive).pending = s.pending := by simp [State.enterActive]

@[simp] theorem State.abandonRequest_frame :
    (s.abandonRequest).pins = s.pins ∧ (s.abandonRequest).station = s.station ∧ (s.abandonRequest).cfg = s.cfg
    ∧ (s.abandonRequest).time = s.time ∧ (s.abandonRequest).phases = s.phases
    ∧ (s.abandonRequest).budget = s.budget ∧ (s.abandonRequest).nbrs = s.nbrs ∧ (s.abandonRequest).comps = s.comps
    ∧ (s.abandonRequest).svc = s.svc ∧ (s.abandonRequest).pending = s.pending := by
  simp only [State.abandonRequest]
  (repeat' split) <;> simp

@[simp] theorem State.enterBlackout_frame :
    (s.enterBlackout).pins = s.pins ∧ (s.enterBlackout).cfg = s.cfg ∧ (s.enterBlackout).time = s.time
    ∧ (s.enterBlackout).phases = s.phases ∧ (s.enterBlackout).budget = s.budget ∧ (s.enterBlackout).nbrs = s.nbrs
    ∧ (s.enterBlackout).comps = s.comps ∧ (s.enterBlackout).svc = s.svc ∧ (s.enterBlackout).pending = s.pending := by simp [State.enterBlackout]

@[simp] theorem State.beginInventory_frame :
    (s.beginInventory).pins = s.pins ∧ (s.beginInventory).cfg = s.cfg ∧ (s.beginInventory).time = s.time
    ∧ (s.beginInventory).phases = s.phases ∧ (s.beginInventory).budget = s.budget
    ∧ (s.beginInventory).nbrs = s.nbrs ∧ (s.beginInventory).comps = s.comps ∧ (s.beginInventory).svc = s.svc
    ∧ (s.beginInventory).pending = s.pending := by simp [State.beginInventory]

@[simp] theorem State.finishInventoryQuery_frame (i : Nat) :
    (s.finishInventoryQuery i).pins = s.pins ∧ (s.finishInventoryQuery i).cfg = s.cfg
    ∧ (s.finishInventoryQuery i).time = s.time ∧ (s.finishInventoryQuery i).phases = s.phases
    ∧ (s.finishInventoryQuery i).budget = s.budget ∧ (s.finishInventoryQuery i).nbrs = s.nbrs
    ∧ (s.finishInventoryQuery i).comps = s.comps ∧ (s.finishInventoryQuery i).svc = s.svc
    ∧ (s.finishInventoryQuery i).pending = s.pending := by
  simp only [State.finishInventoryQuery]
  (repeat' split) <;> simp

@[simp] theorem State.inventoryAnswer_frame (i : Nat) (a : Option (Option Phase)) :
    (s.inventoryAnswer i a).pins = s.pins ∧ (s.inventoryAnswer i a).cfg = s.cfg
    ∧ (s.inventoryAnswer i a).time = s.time ∧ (s.inventoryAnswer i a).phases = s.phases
    ∧ (s.inventoryAnswer i a).budget = s.budget ∧ (s.inventoryAnswer i a).nbrs = s.nbrs
    ∧ (s.inventoryAnswer i a).comps = s.comps ∧ (s.inventoryAnswer i a).svc = s.svc
    ∧ (s.inventoryAnswer i a).pending = s.pending := by simp [State.inventoryAnswer]

@[simp] theorem State.restartEvent_frame :
    (s.restartEvent).pins = s.pins ∧ (s.restartEvent).cfg = s.cfg ∧ (s.restartEvent).phases = s.phases
    ∧ (s.restartEvent).pending = s.pending := by simp [State.restartEvent]

@[simp] theorem State.chooseRef_frame :
    (s.chooseRef).pins = s.pins ∧ (s.chooseRef).station = s.station ∧ (s.chooseRef).cfg = s.cfg
    ∧ (s.chooseRef).phases = s.phases ∧ (s.chooseRef).meas = s.meas ∧ (s.chooseRef).conns = s.conns
    ∧ (s.chooseRef).engine = s.engine ∧ (s.chooseRef).budget = s.budget ∧ (s.chooseRef).line = s.line
    ∧ (s.chooseRef).nbrs = s.nbrs ∧ (s.chooseRef).planner = s.planner ∧ (s.chooseRef).comps = s.comps
    ∧ (s.chooseRef).flags = s.flags ∧ (s.chooseRef).svc = s.svc ∧ (s.chooseRef).draws = s.draws
    ∧ (s.chooseRef).out = s.out ∧ (s.chooseRef).pending = s.pending := by
  simp only [State.chooseRef]
  (repeat' split) <;> simp

@[simp] theorem State.engineLoss_frame (x : Phase) :
    (s.engineLoss x).pins = s.pins ∧ (s.engineLoss x).station = s.station ∧ (s.engineLoss x).cfg = s.cfg
    ∧ (s.engineLoss x).time = s.time ∧ (s.engineLoss x).phases = s.phases ∧ (s.engineLoss x).budget = s.budget
    ∧ (s.engineLoss x).nbrs = s.nbrs ∧ (s.engineLoss x).comps = s.comps ∧ (s.engineLoss x).svc = s.svc
    ∧ (s.engineLoss x).pending = s.pending := by
  simp only [State.engineLoss]
  (repeat' split) <;> simp

@[simp] theorem State.phaseLoss_frame (x : Phase) :
    (s.phaseLoss x).pins = s.pins ∧ (s.phaseLoss x).cfg = s.cfg ∧ (s.phaseLoss x).budget = s.budget
    ∧ (s.phaseLoss x).nbrs = s.nbrs ∧ (s.phaseLoss x).comps = s.comps ∧ (s.phaseLoss x).svc = s.svc
    ∧ (s.phaseLoss x).pending = s.pending := by
  simp only [State.phaseLoss]
  (repeat' split) <;> simp

@[simp] theorem State.phaseReturn_frame (x : Phase) :
    (s.phaseReturn x).pins = s.pins ∧ (s.phaseReturn x).cfg = s.cfg ∧ (s.phaseReturn x).budget = s.budget
    ∧ (s.phaseReturn x).nbrs = s.nbrs ∧ (s.phaseReturn x).comps = s.comps ∧ (s.phaseReturn x).svc = s.svc
    ∧ (s.phaseReturn x).pending = s.pending := by
  simp only [State.phaseReturn]
  (repeat' split) <;> simp

/-! ### The neighbour table and what its notices do -/

@[simp] theorem State.releasePlanner_frame :
    (s.releasePlanner).pins = s.pins ∧ (s.releasePlanner).station = s.station ∧ (s.releasePlanner).cfg = s.cfg
    ∧ (s.releasePlanner).time = s.time ∧ (s.releasePlanner).phases = s.phases
    ∧ (s.releasePlanner).budget = s.budget ∧ (s.releasePlanner).nbrs = s.nbrs ∧ (s.releasePlanner).comps = s.comps
    ∧ (s.releasePlanner).svc = s.svc ∧ (s.releasePlanner).pending = s.pending := by
  simp only [State.releasePlanner]
  (repeat' split) <;> simp

@[simp] theorem State.removePairs_frame (g : PrecPair → Bool) :
    (s.removePairs g).pins = s.pins ∧ (s.removePairs g).station = s.station ∧ (s.removePairs g).cfg = s.cfg
    ∧ (s.removePairs g).time = s.time ∧ (s.removePairs g).phases = s.phases ∧ (s.removePairs g).budget = s.budget
    ∧ (s.removePairs g).nbrs = s.nbrs ∧ (s.removePairs g).comps = s.comps ∧ (s.removePairs g).svc = s.svc
    ∧ (s.removePairs g).pending = s.pending := by
  simp only [State.removePairs]
  (repeat' split) <;> simp

@[simp] theorem State.onNumber_frame (a : Nat) (n : Byte) :
    (s.onNumber a n).pins = s.pins ∧ (s.onNumber a n).station = s.station ∧ (s.onNumber a n).cfg = s.cfg
    ∧ (s.onNumber a n).time = s.time ∧ (s.onNumber a n).phases = s.phases ∧ (s.onNumber a n).budget = s.budget
    ∧ (s.onNumber a n).nbrs = s.nbrs ∧ (s.onNumber a n).comps = s.comps ∧ (s.onNumber a n).svc = s.svc
    ∧ (s.onNumber a n).pending = s.pending := by simp [State.onNumber]

@[simp] theorem State.onEntryGone_frame (a : Nat) :
    (s.onEntryGone a).pins = s.pins ∧ (s.onEntryGone a).station = s.station ∧ (s.onEntryGone a).cfg = s.cfg
    ∧ (s.onEntryGone a).time = s.time ∧ (s.onEntryGone a).phases = s.phases ∧ (s.onEntryGone a).budget = s.budget
    ∧ (s.onEntryGone a).nbrs = s.nbrs ∧ (s.onEntryGone a).comps = s.comps ∧ (s.onEntryGone a).svc = s.svc
    ∧ (s.onEntryGone a).pending = s.pending := by simp [State.onEntryGone]

@[simp] theorem State.onCleared_frame (a : Nat) (i : Option PIntent) :
    (s.onCleared a i).pins = s.pins ∧ (s.onCleared a i).station = s.station ∧ (s.onCleared a i).cfg = s.cfg
    ∧ (s.onCleared a i).time = s.time ∧ (s.onCleared a i).phases = s.phases ∧ (s.onCleared a i).budget = s.budget
    ∧ (s.onCleared a i).nbrs = s.nbrs ∧ (s.onCleared a i).comps = s.comps ∧ (s.onCleared a i).svc = s.svc
    ∧ (s.onCleared a i).pending = s.pending := by
  simp only [State.onCleared]
  (repeat' split) <;> simp

@[simp] theorem State.onHeard_frame (a : Nat) (f : Frame) :
    (s.onHeard a f).pins = s.pins ∧ (s.onHeard a f).station = s.station ∧ (s.onHeard a f).cfg = s.cfg
    ∧ (s.onHeard a f).time = s.time ∧ (s.onHeard a f).phases = s.phases ∧ (s.onHeard a f).budget = s.budget
    ∧ (s.onHeard a f).nbrs = s.nbrs ∧ (s.onHeard a f).comps = s.comps ∧ (s.onHeard a f).svc = s.svc
    ∧ (s.onHeard a f).pending = s.pending := by
  simp only [State.onHeard]
  (repeat' split) <;> simp

@[simp] theorem State.onPeerHold_frame (b : Bool) :
    (s.onPeerHold b).pins = s.pins ∧ (s.onPeerHold b).station = s.station ∧ (s.onPeerHold b).cfg = s.cfg
    ∧ (s.onPeerHold b).time = s.time ∧ (s.onPeerHold b).phases = s.phases ∧ (s.onPeerHold b).meas = s.meas
    ∧ (s.onPeerHold b).conns = s.conns ∧ (s.onPeerHold b).engine = s.engine ∧ (s.onPeerHold b).budget = s.budget
    ∧ (s.onPeerHold b).nbrs = s.nbrs ∧ (s.onPeerHold b).comps = s.comps ∧ (s.onPeerHold b).svc = s.svc
    ∧ (s.onPeerHold b).out = s.out ∧ (s.onPeerHold b).pending = s.pending := by
  simp only [State.onPeerHold]
  (repeat' split) <;> simp

@[simp] theorem State.flagHold_frame (f : Frame) :
    (s.flagHold f).pins = s.pins ∧ (s.flagHold f).station = s.station ∧ (s.flagHold f).cfg = s.cfg
    ∧ (s.flagHold f).time = s.time ∧ (s.flagHold f).phases = s.phases ∧ (s.flagHold f).meas = s.meas
    ∧ (s.flagHold f).conns = s.conns ∧ (s.flagHold f).engine = s.engine ∧ (s.flagHold f).budget = s.budget
    ∧ (s.flagHold f).line = s.line ∧ (s.flagHold f).nbrs = s.nbrs ∧ (s.flagHold f).planner = s.planner
    ∧ (s.flagHold f).comps = s.comps ∧ (s.flagHold f).svc = s.svc ∧ (s.flagHold f).draws = s.draws
    ∧ (s.flagHold f).out = s.out ∧ (s.flagHold f).pending = s.pending := by
  simp only [State.flagHold]
  (repeat' split) <;> simp

@[simp] theorem State.takeFrame_frame (a : Nat) (f : Frame) :
    (s.takeFrame a f).pins = s.pins ∧ (s.takeFrame a f).station = s.station ∧ (s.takeFrame a f).cfg = s.cfg
    ∧ (s.takeFrame a f).time = s.time ∧ (s.takeFrame a f).phases = s.phases ∧ (s.takeFrame a f).budget = s.budget
    ∧ (s.takeFrame a f).comps = s.comps ∧ (s.takeFrame a f).svc = s.svc ∧ (s.takeFrame a f).pending = s.pending := by
  simp only [State.takeFrame]
  (repeat' split) <;> simp

@[simp] theorem State.frameHeard_frame (a : Nat) (f : Frame) :
    (s.frameHeard a f).pins = s.pins ∧ (s.frameHeard a f).station = s.station ∧ (s.frameHeard a f).cfg = s.cfg
    ∧ (s.frameHeard a f).time = s.time ∧ (s.frameHeard a f).phases = s.phases
    ∧ (s.frameHeard a f).budget = s.budget ∧ (s.frameHeard a f).comps = s.comps ∧ (s.frameHeard a f).svc = s.svc
    ∧ (s.frameHeard a f).pending = s.pending := by
  simp only [State.frameHeard]
  (repeat' split) <;> simp

@[simp] theorem State.receiveFrame_frame (b : List Byte) :
    (s.receiveFrame b).station = s.station ∧ (s.receiveFrame b).cfg = s.cfg ∧ (s.receiveFrame b).time = s.time
    ∧ (s.receiveFrame b).phases = s.phases ∧ (s.receiveFrame b).budget = s.budget
    ∧ (s.receiveFrame b).comps = s.comps ∧ (s.receiveFrame b).svc = s.svc ∧ (s.receiveFrame b).pending = s.pending := by
  simp only [State.receiveFrame]
  (repeat' split) <;> simp

@[simp] theorem State.onEntrySecond_frame (o : Entry) (e : Option Entry) :
    (s.onEntrySecond o e).pins = s.pins ∧ (s.onEntrySecond o e).station = s.station
    ∧ (s.onEntrySecond o e).cfg = s.cfg ∧ (s.onEntrySecond o e).time = s.time
    ∧ (s.onEntrySecond o e).phases = s.phases ∧ (s.onEntrySecond o e).budget = s.budget
    ∧ (s.onEntrySecond o e).nbrs = s.nbrs ∧ (s.onEntrySecond o e).comps = s.comps
    ∧ (s.onEntrySecond o e).svc = s.svc ∧ (s.onEntrySecond o e).pending = s.pending := by
  simp only [State.onEntrySecond]
  (repeat' split) <;> simp

@[simp] theorem State.onTableSecond_frame (b a : List (Option Entry)) :
    (s.onTableSecond b a).pins = s.pins ∧ (s.onTableSecond b a).station = s.station
    ∧ (s.onTableSecond b a).cfg = s.cfg ∧ (s.onTableSecond b a).time = s.time
    ∧ (s.onTableSecond b a).phases = s.phases ∧ (s.onTableSecond b a).budget = s.budget
    ∧ (s.onTableSecond b a).nbrs = s.nbrs ∧ (s.onTableSecond b a).comps = s.comps
    ∧ (s.onTableSecond b a).svc = s.svc ∧ (s.onTableSecond b a).pending = s.pending := by
  simp only [State.onTableSecond]
  generalize b.zip a = l
  induction l generalizing s with
  | nil => simp
  | cons x l ih =>
    rw [List.foldl_cons]
    rcases x with ⟨_ | e, x⟩
    · exact ih s
    · simp [ih]

@[simp] theorem State.noticesOrLapse_frame (b a : List (Option Entry)) :
    (s.noticesOrLapse b a).pins = s.pins ∧ (s.noticesOrLapse b a).station = s.station
    ∧ (s.noticesOrLapse b a).cfg = s.cfg ∧ (s.noticesOrLapse b a).time = s.time
    ∧ (s.noticesOrLapse b a).phases = s.phases ∧ (s.noticesOrLapse b a).budget = s.budget
    ∧ (s.noticesOrLapse b a).nbrs = s.nbrs ∧ (s.noticesOrLapse b a).comps = s.comps
    ∧ (s.noticesOrLapse b a).svc = s.svc ∧ (s.noticesOrLapse b a).pending = s.pending := by
  simp only [State.noticesOrLapse]
  (repeat' split) <;> simp

@[simp] theorem State.tableSecond_frame :
    (s.tableSecond).pins = s.pins ∧ (s.tableSecond).station = s.station ∧ (s.tableSecond).cfg = s.cfg
    ∧ (s.tableSecond).time = s.time ∧ (s.tableSecond).phases = s.phases ∧ (s.tableSecond).budget = s.budget
    ∧ (s.tableSecond).comps = s.comps ∧ (s.tableSecond).svc = s.svc ∧ (s.tableSecond).pending = s.pending := by simp [State.tableSecond]

@[simp] theorem State.staleAge_frame (k : Nat) :
    (s.staleAge k).pins = s.pins ∧ (s.staleAge k).station = s.station ∧ (s.staleAge k).cfg = s.cfg
    ∧ (s.staleAge k).time = s.time ∧ (s.staleAge k).phases = s.phases ∧ (s.staleAge k).budget = s.budget
    ∧ (s.staleAge k).comps = s.comps ∧ (s.staleAge k).svc = s.svc ∧ (s.staleAge k).pending = s.pending := by
  simp only [State.staleAge]
  (repeat' split) <;> simp

@[simp] theorem State.forgetAge_frame (k : Nat) :
    (s.forgetAge k).pins = s.pins ∧ (s.forgetAge k).station = s.station ∧ (s.forgetAge k).cfg = s.cfg
    ∧ (s.forgetAge k).time = s.time ∧ (s.forgetAge k).phases = s.phases ∧ (s.forgetAge k).budget = s.budget
    ∧ (s.forgetAge k).comps = s.comps ∧ (s.forgetAge k).svc = s.svc ∧ (s.forgetAge k).pending = s.pending := by
  simp only [State.forgetAge]
  (repeat' split) <;> simp

@[simp] theorem State.intentLifetimeEnd_frame (k : Nat) :
    (s.intentLifetimeEnd k).pins = s.pins ∧ (s.intentLifetimeEnd k).station = s.station
    ∧ (s.intentLifetimeEnd k).cfg = s.cfg ∧ (s.intentLifetimeEnd k).time = s.time
    ∧ (s.intentLifetimeEnd k).phases = s.phases ∧ (s.intentLifetimeEnd k).budget = s.budget
    ∧ (s.intentLifetimeEnd k).comps = s.comps ∧ (s.intentLifetimeEnd k).svc = s.svc
    ∧ (s.intentLifetimeEnd k).pending = s.pending := by
  simp only [State.intentLifetimeEnd]
  (repeat' split) <;> simp

@[simp] theorem State.peerHoldEnd_frame (k : Nat) :
    (s.peerHoldEnd k).pins = s.pins ∧ (s.peerHoldEnd k).station = s.station ∧ (s.peerHoldEnd k).cfg = s.cfg
    ∧ (s.peerHoldEnd k).time = s.time ∧ (s.peerHoldEnd k).phases = s.phases ∧ (s.peerHoldEnd k).meas = s.meas
    ∧ (s.peerHoldEnd k).conns = s.conns ∧ (s.peerHoldEnd k).engine = s.engine
    ∧ (s.peerHoldEnd k).budget = s.budget ∧ (s.peerHoldEnd k).line = s.line
    ∧ (s.peerHoldEnd k).planner = s.planner ∧ (s.peerHoldEnd k).comps = s.comps
    ∧ (s.peerHoldEnd k).flags = s.flags ∧ (s.peerHoldEnd k).svc = s.svc ∧ (s.peerHoldEnd k).draws = s.draws
    ∧ (s.peerHoldEnd k).out = s.out ∧ (s.peerHoldEnd k).pending = s.pending := by
  simp only [State.peerHoldEnd]
  (repeat' split) <;> simp

@[simp] theorem State.listenExpiry_frame :
    (s.listenExpiry).pins = s.pins ∧ (s.listenExpiry).station = s.station ∧ (s.listenExpiry).cfg = s.cfg
    ∧ (s.listenExpiry).time = s.time ∧ (s.listenExpiry).phases = s.phases ∧ (s.listenExpiry).budget = s.budget
    ∧ (s.listenExpiry).nbrs = s.nbrs ∧ (s.listenExpiry).comps = s.comps ∧ (s.listenExpiry).svc = s.svc
    ∧ (s.listenExpiry).pending = s.pending := by
  simp only [State.listenExpiry]
  (repeat' split) <;> simp

@[simp] theorem State.listenOnlyExpiry_frame :
    (s.listenOnlyExpiry).pins = s.pins ∧ (s.listenOnlyExpiry).cfg = s.cfg ∧ (s.listenOnlyExpiry).time = s.time
    ∧ (s.listenOnlyExpiry).phases = s.phases ∧ (s.listenOnlyExpiry).nbrs = s.nbrs
    ∧ (s.listenOnlyExpiry).comps = s.comps ∧ (s.listenOnlyExpiry).svc = s.svc
    ∧ (s.listenOnlyExpiry).pending = s.pending := by
  simp only [State.listenOnlyExpiry]
  (repeat' split) <;> simp

/-! ### Time -/

/-- The neighbour table after a seconds tick: every entry has taken it. -/
@[simp] theorem State.tableSecond_nbrs :
    s.tableSecond.nbrs = s.nbrs.map fun e => e.bind (Entry.second s.staleAfter s.forgetAfter) := by
  simp [State.tableSecond]
/-- A transmission starts without a look at the engine. -/
theorem State.startTransmission_engine (e : Engine) :
    State.startTransmission { s with engine := e } = { s.startTransmission with engine := e } := by
  simp only [State.startTransmission]
  rcases h : s.line.head.bind s.line.takeFrame with _ | ⟨f, l⟩ <;> rfl

/-- A gap is completed without a look at the engine. -/
theorem State.gapComplete_engine (e : Engine) :
    State.gapComplete { s with engine := e } = { s.gapComplete with engine := e } := by
  have hd := s.drawn.startTransmission_engine e
  simp only [State.gapComplete]
  rcases s.line.access with _ | g | n | ⟨n, g⟩ | _ <;> try rfl
  rcases s.line.head with _ | h <;> try rfl
  by_cases hz : s.drawValue h.deferral = 0
  · have hz' : State.drawValue { s with engine := e } h.deferral = 0 := hz
    simp only [hz, hz', if_true]
    exact hd
  · have hz' : State.drawValue { s with engine := e } h.deferral ≠ 0 := hz
    simp only [hz, hz', if_false]
    rfl

/-- A cycle in the access does not look at the engine. -/
theorem State.accessCycle_engine (e : Engine) :
    State.accessCycle { s with engine := e } = { s.accessCycle with engine := e } := by
  have hg := s.gapComplete_engine e
  have hs := s.startTransmission_engine e
  simp only [State.accessCycle]
  rcases s.line.access with _ | (_ | k) | n | ⟨n, _ | k⟩ | _ <;> try rfl
  · by_cases h : gapCycles ≤ k + 1 <;> simp only [h, if_true, if_false]
    · exact hg
    · rfl
  · by_cases h : n ≤ 1 <;> simp only [h, if_true, if_false]
    · exact hs
    · rfl
  · by_cases h : gapCycles ≤ k + 1 <;> simp only [h, if_true, if_false]
    · exact hg
    · rfl

/-- The timers of the budget run on through every tick. -/
@[simp] theorem Budget.second_running (x y : Nat) (b : Budget) : (b.second x y).running = b.running := by
  simp only [Budget.second, Budget.samplingEnd, Budget.throttleEnd, Budget.monitoringEnd, Budget.counted]
  (repeat' split) <;> rfl

@[simp] theorem State.cyclesPass_frame (n : Nat) :
    (s.cyclesPass n).pins = s.pins ∧ (s.cyclesPass n).station = s.station ∧ (s.cyclesPass n).cfg = s.cfg
    ∧ (s.cyclesPass n).time = s.time ∧ (s.cyclesPass n).phases = s.phases ∧ (s.cyclesPass n).meas = s.meas
    ∧ (s.cyclesPass n).conns = s.conns ∧ (s.cyclesPass n).budget = s.budget ∧ (s.cyclesPass n).nbrs = s.nbrs
    ∧ (s.cyclesPass n).planner = s.planner ∧ (s.cyclesPass n).comps = s.comps ∧ (s.cyclesPass n).flags = s.flags
    ∧ (s.cyclesPass n).svc = s.svc ∧ (s.cyclesPass n).pending = s.pending := by simp [State.cyclesPass]

@[simp] theorem State.referenceCrossing_frame (p : Phase) :
    (s.referenceCrossing p).pins = s.pins ∧ (s.referenceCrossing p).station = s.station
    ∧ (s.referenceCrossing p).cfg = s.cfg ∧ (s.referenceCrossing p).phases = s.phases
    ∧ (s.referenceCrossing p).meas = s.meas ∧ (s.referenceCrossing p).conns = s.conns
    ∧ (s.referenceCrossing p).budget = s.budget ∧ (s.referenceCrossing p).nbrs = s.nbrs
    ∧ (s.referenceCrossing p).planner = s.planner ∧ (s.referenceCrossing p).comps = s.comps
    ∧ (s.referenceCrossing p).flags = s.flags ∧ (s.referenceCrossing p).svc = s.svc
    ∧ (s.referenceCrossing p).pending = s.pending := by
  simp only [State.referenceCrossing]
  (repeat' split) <;> simp

@[simp] theorem State.engineCrossing_frame (p : Phase) :
    (s.engineCrossing p).pins = s.pins ∧ (s.engineCrossing p).station = s.station
    ∧ (s.engineCrossing p).cfg = s.cfg ∧ (s.engineCrossing p).time = s.time
    ∧ (s.engineCrossing p).phases = s.phases ∧ (s.engineCrossing p).meas = s.meas
    ∧ (s.engineCrossing p).conns = s.conns ∧ (s.engineCrossing p).budget = s.budget
    ∧ (s.engineCrossing p).line = s.line ∧ (s.engineCrossing p).nbrs = s.nbrs
    ∧ (s.engineCrossing p).planner = s.planner ∧ (s.engineCrossing p).comps = s.comps
    ∧ (s.engineCrossing p).flags = s.flags ∧ (s.engineCrossing p).svc = s.svc
    ∧ (s.engineCrossing p).draws = s.draws ∧ (s.engineCrossing p).pending = s.pending := by
  simp only [State.engineCrossing]
  (repeat' split) <;> simp

@[simp] theorem State.crossing_frame (p : Phase) (e : Edge) :
    (s.crossing p e).station = s.station ∧ (s.crossing p e).cfg = s.cfg ∧ (s.crossing p e).meas = s.meas
    ∧ (s.crossing p e).conns = s.conns ∧ (s.crossing p e).budget = s.budget ∧ (s.crossing p e).nbrs = s.nbrs
    ∧ (s.crossing p e).planner = s.planner ∧ (s.crossing p e).comps = s.comps ∧ (s.crossing p e).flags = s.flags
    ∧ (s.crossing p e).svc = s.svc ∧ (s.crossing p e).pending = s.pending := by
  simp only [State.crossing]
  (repeat' split) <;> simp

@[simp] theorem State.countSecond_frame :
    (s.countSecond).pins = s.pins ∧ (s.countSecond).cfg = s.cfg ∧ (s.countSecond).time = s.time
    ∧ (s.countSecond).phases = s.phases ∧ (s.countSecond).engine = s.engine ∧ (s.countSecond).nbrs = s.nbrs
    ∧ (s.countSecond).comps = s.comps ∧ (s.countSecond).flags = s.flags ∧ (s.countSecond).svc = s.svc
    ∧ (s.countSecond).draws = s.draws ∧ (s.countSecond).out = s.out ∧ (s.countSecond).pending = s.pending := by simp [State.countSecond]

@[simp] theorem State.goStale_frame :
    (s.goStale).pins = s.pins ∧ (s.goStale).station = s.station ∧ (s.goStale).cfg = s.cfg
    ∧ (s.goStale).time = s.time ∧ (s.goStale).phases = s.phases ∧ (s.goStale).budget = s.budget
    ∧ (s.goStale).nbrs = s.nbrs ∧ (s.goStale).comps = s.comps ∧ (s.goStale).svc = s.svc
    ∧ (s.goStale).pending = s.pending := by simp [State.goStale]

@[simp] theorem State.ageEnd_frame :
    (s.ageEnd).pins = s.pins ∧ (s.ageEnd).station = s.station ∧ (s.ageEnd).cfg = s.cfg
    ∧ (s.ageEnd).time = s.time ∧ (s.ageEnd).phases = s.phases ∧ (s.ageEnd).budget = s.budget
    ∧ (s.ageEnd).nbrs = s.nbrs ∧ (s.ageEnd).comps = s.comps ∧ (s.ageEnd).svc = s.svc
    ∧ (s.ageEnd).pending = s.pending := by
  simp only [State.ageEnd]
  (repeat' split) <;> simp

@[simp] theorem State.second_frame :
    (s.second).pins = s.pins ∧ (s.second).cfg = s.cfg ∧ (s.second).time = s.time ∧ (s.second).phases = s.phases
    ∧ (s.second).comps = s.comps ∧ (s.second).svc = s.svc ∧ (s.second).pending = s.pending := by simp [State.second]

@[simp] theorem State.secondsTick_frame :
    (s.secondsTick).pins = s.pins ∧ (s.secondsTick).cfg = s.cfg ∧ (s.secondsTick).phases = s.phases
    ∧ (s.secondsTick).comps = s.comps ∧ (s.secondsTick).svc = s.svc ∧ (s.secondsTick).pending = s.pending := by
  simp only [State.secondsTick]
  (repeat' split) <;> simp

@[simp] theorem State.idle_frame :
    (s.idle).pins = s.pins ∧ (s.idle).station = s.station ∧ (s.idle).cfg = s.cfg ∧ (s.idle).time = s.time
    ∧ (s.idle).phases = s.phases ∧ (s.idle).meas = s.meas ∧ (s.idle).conns = s.conns ∧ (s.idle).budget = s.budget
    ∧ (s.idle).nbrs = s.nbrs ∧ (s.idle).planner = s.planner ∧ (s.idle).comps = s.comps ∧ (s.idle).flags = s.flags
    ∧ (s.idle).svc = s.svc ∧ (s.idle).pending = s.pending := by
  simp only [State.idle, powered]
  (repeat' split) <;> simp

/-! ### Measurement -/

@[simp] theorem State.takeReadings_frame (r : List Reading) :
    (s.takeReadings r).pins = s.pins ∧ (s.takeReadings r).station = s.station ∧ (s.takeReadings r).cfg = s.cfg
    ∧ (s.takeReadings r).time = s.time ∧ (s.takeReadings r).phases = s.phases ∧ (s.takeReadings r).conns = s.conns
    ∧ (s.takeReadings r).engine = s.engine ∧ (s.takeReadings r).budget = s.budget
    ∧ (s.takeReadings r).line = s.line ∧ (s.takeReadings r).nbrs = s.nbrs ∧ (s.takeReadings r).planner = s.planner
    ∧ (s.takeReadings r).comps = s.comps ∧ (s.takeReadings r).flags = s.flags ∧ (s.takeReadings r).svc = s.svc
    ∧ (s.takeReadings r).draws = s.draws ∧ (s.takeReadings r).out = s.out ∧ (s.takeReadings r).pending = s.pending := by simp [State.takeReadings]

@[simp] theorem State.deriveSums_frame :
    (s.deriveSums).pins = s.pins ∧ (s.deriveSums).station = s.station ∧ (s.deriveSums).cfg = s.cfg
    ∧ (s.deriveSums).time = s.time ∧ (s.deriveSums).phases = s.phases ∧ (s.deriveSums).conns = s.conns
    ∧ (s.deriveSums).engine = s.engine ∧ (s.deriveSums).budget = s.budget ∧ (s.deriveSums).line = s.line
    ∧ (s.deriveSums).nbrs = s.nbrs ∧ (s.deriveSums).planner = s.planner ∧ (s.deriveSums).comps = s.comps
    ∧ (s.deriveSums).flags = s.flags ∧ (s.deriveSums).svc = s.svc ∧ (s.deriveSums).draws = s.draws
    ∧ (s.deriveSums).out = s.out ∧ (s.deriveSums).pending = s.pending := by simp [State.deriveSums]

@[simp] theorem State.takeSnapshot_frame (p : Planner) :
    (s.takeSnapshot p).pins = s.pins ∧ (s.takeSnapshot p).station = s.station ∧ (s.takeSnapshot p).cfg = s.cfg
    ∧ (s.takeSnapshot p).time = s.time ∧ (s.takeSnapshot p).phases = s.phases ∧ (s.takeSnapshot p).meas = s.meas
    ∧ (s.takeSnapshot p).conns = s.conns ∧ (s.takeSnapshot p).engine = s.engine
    ∧ (s.takeSnapshot p).budget = s.budget ∧ (s.takeSnapshot p).nbrs = s.nbrs
    ∧ (s.takeSnapshot p).planner = s.planner ∧ (s.takeSnapshot p).comps = s.comps
    ∧ (s.takeSnapshot p).flags = s.flags ∧ (s.takeSnapshot p).svc = s.svc ∧ (s.takeSnapshot p).draws = s.draws
    ∧ (s.takeSnapshot p).out = s.out ∧ (s.takeSnapshot p).pending = s.pending := by simp [State.takeSnapshot]

@[simp] theorem State.examine_frame (v : Ph3 Nat) (p : Phase) :
    (State.examine v s p).pins = s.pins ∧ (State.examine v s p).cfg = s.cfg
    ∧ (State.examine v s p).budget = s.budget ∧ (State.examine v s p).nbrs = s.nbrs
    ∧ (State.examine v s p).comps = s.comps ∧ (State.examine v s p).svc = s.svc
    ∧ (State.examine v s p).pending = s.pending := by
  simp only [State.examine]
  (repeat' split) <;> simp

@[simp] theorem State.supervise_frame (v : Ph3 Nat) :
    (s.supervise v).pins = s.pins ∧ (s.supervise v).cfg = s.cfg ∧ (s.supervise v).budget = s.budget
    ∧ (s.supervise v).nbrs = s.nbrs ∧ (s.supervise v).comps = s.comps ∧ (s.supervise v).svc = s.svc
    ∧ (s.supervise v).pending = s.pending := by
  simp [State.supervise, Phase.all]

@[simp] theorem State.takeAction_frame (a : Action) (b : Bool) :
    (s.takeAction a b).pins = s.pins ∧ (s.takeAction a b).station = s.station ∧ (s.takeAction a b).cfg = s.cfg
    ∧ (s.takeAction a b).time = s.time ∧ (s.takeAction a b).phases = s.phases ∧ (s.takeAction a b).meas = s.meas
    ∧ (s.takeAction a b).conns = s.conns ∧ (s.takeAction a b).engine = s.engine
    ∧ (s.takeAction a b).budget = s.budget ∧ (s.takeAction a b).nbrs = s.nbrs ∧ (s.takeAction a b).comps = s.comps
    ∧ (s.takeAction a b).svc = s.svc ∧ (s.takeAction a b).out = s.out ∧ (s.takeAction a b).pending = s.pending := by
  simp only [State.takeAction]
  (repeat' split) <;> simp

@[simp] theorem State.compare_frame (b : Bool) (k : Nat) :
    (State.compare b s k).pins = s.pins ∧ (State.compare b s k).station = s.station
    ∧ (State.compare b s k).cfg = s.cfg ∧ (State.compare b s k).time = s.time
    ∧ (State.compare b s k).phases = s.phases ∧ (State.compare b s k).meas = s.meas
    ∧ (State.compare b s k).conns = s.conns ∧ (State.compare b s k).engine = s.engine
    ∧ (State.compare b s k).budget = s.budget ∧ (State.compare b s k).nbrs = s.nbrs
    ∧ (State.compare b s k).svc = s.svc ∧ (State.compare b s k).out = s.out
    ∧ (State.compare b s k).pending = s.pending := by
  simp only [State.compare]
  (repeat' split) <;> simp

@[simp] theorem State.compareFrom_frame (b : Bool) (l : List Nat) :
    (State.compareFrom b s l).pins = s.pins ∧ (State.compareFrom b s l).station = s.station
    ∧ (State.compareFrom b s l).cfg = s.cfg ∧ (State.compareFrom b s l).time = s.time
    ∧ (State.compareFrom b s l).phases = s.phases ∧ (State.compareFrom b s l).meas = s.meas
    ∧ (State.compareFrom b s l).conns = s.conns ∧ (State.compareFrom b s l).engine = s.engine
    ∧ (State.compareFrom b s l).budget = s.budget ∧ (State.compareFrom b s l).nbrs = s.nbrs
    ∧ (State.compareFrom b s l).svc = s.svc ∧ (State.compareFrom b s l).out = s.out
    ∧ (State.compareFrom b s l).pending = s.pending := by
  induction l generalizing b s with
  | nil => simp [State.compareFrom]
  | cons k l ih => simp [State.compareFrom, ih]

@[simp] theorem State.compareAll_frame :
    (s.compareAll).pins = s.pins ∧ (s.compareAll).station = s.station ∧ (s.compareAll).cfg = s.cfg
    ∧ (s.compareAll).time = s.time ∧ (s.compareAll).phases = s.phases ∧ (s.compareAll).meas = s.meas
    ∧ (s.compareAll).conns = s.conns ∧ (s.compareAll).engine = s.engine ∧ (s.compareAll).budget = s.budget
    ∧ (s.compareAll).nbrs = s.nbrs ∧ (s.compareAll).svc = s.svc ∧ (s.compareAll).out = s.out
    ∧ (s.compareAll).pending = s.pending := by simp [State.compareAll]

@[simp] theorem State.dataReady_frame (w : Byte) :
    (s.dataReady w).pins = s.pins ∧ (s.dataReady w).station = s.station ∧ (s.dataReady w).cfg = s.cfg
    ∧ (s.dataReady w).time = s.time ∧ (s.dataReady w).phases = s.phases ∧ (s.dataReady w).conns = s.conns
    ∧ (s.dataReady w).engine = s.engine ∧ (s.dataReady w).budget = s.budget ∧ (s.dataReady w).line = s.line
    ∧ (s.dataReady w).nbrs = s.nbrs ∧ (s.dataReady w).planner = s.planner ∧ (s.dataReady w).comps = s.comps
    ∧ (s.dataReady w).flags = s.flags ∧ (s.dataReady w).svc = s.svc ∧ (s.dataReady w).draws = s.draws
    ∧ (s.dataReady w).pending = s.pending := by
  simp only [State.dataReady]
  (repeat' split) <;> simp

@[simp] theorem State.recordTaken_frame (w : Byte) (r : List Reading) :
    (s.recordTaken w r).pins = s.pins ∧ (s.recordTaken w r).station = s.station
    ∧ (s.recordTaken w r).cfg = s.cfg ∧ (s.recordTaken w r).time = s.time ∧ (s.recordTaken w r).phases = s.phases
    ∧ (s.recordTaken w r).conns = s.conns ∧ (s.recordTaken w r).engine = s.engine
    ∧ (s.recordTaken w r).budget = s.budget ∧ (s.recordTaken w r).nbrs = s.nbrs
    ∧ (s.recordTaken w r).planner = s.planner ∧ (s.recordTaken w r).comps = s.comps
    ∧ (s.recordTaken w r).flags = s.flags ∧ (s.recordTaken w r).svc = s.svc ∧ (s.recordTaken w r).draws = s.draws
    ∧ (s.recordTaken w r).out = s.out ∧ (s.recordTaken w r).pending = s.pending := by simp [State.recordTaken]

@[simp] theorem State.freshen_frame :
    (s.freshen).pins = s.pins ∧ (s.freshen).station = s.station ∧ (s.freshen).cfg = s.cfg
    ∧ (s.freshen).time = s.time ∧ (s.freshen).phases = s.phases ∧ (s.freshen).conns = s.conns
    ∧ (s.freshen).engine = s.engine ∧ (s.freshen).budget = s.budget ∧ (s.freshen).line = s.line
    ∧ (s.freshen).nbrs = s.nbrs ∧ (s.freshen).planner = s.planner ∧ (s.freshen).comps = s.comps
    ∧ (s.freshen).flags = s.flags ∧ (s.freshen).svc = s.svc ∧ (s.freshen).draws = s.draws
    ∧ (s.freshen).out = s.out ∧ (s.freshen).pending = s.pending := by simp [State.freshen]

@[simp] theorem State.acceptRecord_frame (w : Byte) (r : List Reading) (v : Ph3 Nat) :
    (s.acceptRecord w r v).pins = s.pins ∧ (s.acceptRecord w r v).cfg = s.cfg
    ∧ (s.acceptRecord w r v).budget = s.budget ∧ (s.acceptRecord w r v).nbrs = s.nbrs
    ∧ (s.acceptRecord w r v).svc = s.svc ∧ (s.acceptRecord w r v).pending = s.pending := by simp [State.acceptRecord]

/-! ### Answers and timeouts -/

/-- No cycle passing changes nothing. -/
@[simp] theorem State.cyclesPass_zero : s.cyclesPass 0 = s := by
  have hr : s.engine.req.map (Req.count 0) = s.engine.req := by
    rcases s.engine.req with _ | r
    · rfl
    · cases r <;> rfl
  simp only [State.cyclesPass, State.accessCycles, hr]

/-- At the end of a count, what was left of it has passed; and it is at its end when nothing was left, or no cycle events come. -/
theorem State.atCountEnd_some (n : Nat) (t : State) :
    s.atCountEnd n = some t ↔ (n = 0 ∨ s.noCycles = true) ∧ t = s.cyclesPass n := by
  unfold State.atCountEnd
  by_cases h : n = 0
  · subst h
    simp only [if_true, cyclesPass_zero, Option.some.injEq, true_or, true_and]
    exact eq_comm
  · by_cases hc : s.noCycles = true <;> simp only [h, hc, if_true, if_false, false_or, true_and, Option.some.injEq]
    · exact eq_comm
    · simp

/-- The state at the end of a request's timeout is the present one with what was left of it passed. -/
theorem State.expired_some (r : Req) (t : State) (h : s.expired = some (r, t)) :
    ∃ q, s.engine.req = some q ∧ r = q.count q.left ∧ (q.left = 0 ∨ s.noCycles = true) ∧ t = s.cyclesPass q.left := by
  unfold State.expired at h
  split at h
  · rename_i q hq
    simp only [Option.map_eq_some_iff, Prod.mk.injEq] at h
    obtain ⟨u, hu, rfl, rfl⟩ := h
    rw [State.atCountEnd_some] at hu
    exact ⟨q, hq, rfl, hu.1, hu.2⟩
  · cases h

@[simp] theorem State.setCur_frame (i : Nat) (x : Option Phase) :
    (s.setCur i x).pins = s.pins ∧ (s.setCur i x).station = s.station ∧ (s.setCur i x).cfg = s.cfg
    ∧ (s.setCur i x).time = s.time ∧ (s.setCur i x).phases = s.phases ∧ (s.setCur i x).meas = s.meas
    ∧ (s.setCur i x).engine = s.engine ∧ (s.setCur i x).budget = s.budget ∧ (s.setCur i x).line = s.line
    ∧ (s.setCur i x).nbrs = s.nbrs ∧ (s.setCur i x).planner = s.planner ∧ (s.setCur i x).comps = s.comps
    ∧ (s.setCur i x).flags = s.flags ∧ (s.setCur i x).svc = s.svc ∧ (s.setCur i x).draws = s.draws
    ∧ (s.setCur i x).out = s.out ∧ (s.setCur i x).pending = s.pending := by simp [State.setCur]

@[simp] theorem State.readyTaken_frame (m : MoveReq) (x : Option Phase) :
    (s.readyTaken m x).pins = s.pins ∧ (s.readyTaken m x).station = s.station ∧ (s.readyTaken m x).cfg = s.cfg
    ∧ (s.readyTaken m x).time = s.time ∧ (s.readyTaken m x).phases = s.phases ∧ (s.readyTaken m x).nbrs = s.nbrs
    ∧ (s.readyTaken m x).comps = s.comps ∧ (s.readyTaken m x).svc = s.svc ∧ (s.readyTaken m x).pending = s.pending := by
  simp only [State.readyTaken]
  (repeat' split) <;> simp

@[simp] theorem State.ready_frame (i : Nat) (x : Option Phase) (g : Bool) :
    (s.ready i x g).pins = s.pins ∧ (s.ready i x g).station = s.station ∧ (s.ready i x g).cfg = s.cfg
    ∧ (s.ready i x g).time = s.time ∧ (s.ready i x g).phases = s.phases ∧ (s.ready i x g).nbrs = s.nbrs
    ∧ (s.ready i x g).comps = s.comps ∧ (s.ready i x g).svc = s.svc ∧ (s.ready i x g).pending = s.pending := by
  simp only [State.ready]
  (repeat' split) <;> simp

@[simp] theorem State.notReady_frame (i : Nat) (g : Bool) :
    (s.notReady i g).pins = s.pins ∧ (s.notReady i g).station = s.station ∧ (s.notReady i g).cfg = s.cfg
    ∧ (s.notReady i g).time = s.time ∧ (s.notReady i g).phases = s.phases ∧ (s.notReady i g).budget = s.budget
    ∧ (s.notReady i g).nbrs = s.nbrs ∧ (s.notReady i g).comps = s.comps ∧ (s.notReady i g).svc = s.svc
    ∧ (s.notReady i g).pending = s.pending := by
  simp only [State.notReady]
  (repeat' split) <;> simp

@[simp] theorem State.opened_frame (i : Nat) (g : Bool) :
    (s.opened i g).pins = s.pins ∧ (s.opened i g).station = s.station ∧ (s.opened i g).cfg = s.cfg
    ∧ (s.opened i g).time = s.time ∧ (s.opened i g).phases = s.phases ∧ (s.opened i g).budget = s.budget
    ∧ (s.opened i g).nbrs = s.nbrs ∧ (s.opened i g).comps = s.comps ∧ (s.opened i g).svc = s.svc
    ∧ (s.opened i g).pending = s.pending := by
  simp only [State.opened]
  (repeat' split) <;> simp

@[simp] theorem State.sendBreakQuery_frame (m : MoveReq) :
    (s.sendBreakQuery m).pins = s.pins ∧ (s.sendBreakQuery m).station = s.station
    ∧ (s.sendBreakQuery m).cfg = s.cfg ∧ (s.sendBreakQuery m).time = s.time
    ∧ (s.sendBreakQuery m).phases = s.phases ∧ (s.sendBreakQuery m).meas = s.meas
    ∧ (s.sendBreakQuery m).conns = s.conns ∧ (s.sendBreakQuery m).budget = s.budget
    ∧ (s.sendBreakQuery m).line = s.line ∧ (s.sendBreakQuery m).nbrs = s.nbrs
    ∧ (s.sendBreakQuery m).planner = s.planner ∧ (s.sendBreakQuery m).comps = s.comps
    ∧ (s.sendBreakQuery m).flags = s.flags ∧ (s.sendBreakQuery m).svc = s.svc
    ∧ (s.sendBreakQuery m).draws = s.draws ∧ (s.sendBreakQuery m).pending = s.pending := by simp [State.sendBreakQuery]

@[simp] theorem State.refused_frame (r : Req) :
    (s.refused r).pins = s.pins ∧ (s.refused r).station = s.station ∧ (s.refused r).cfg = s.cfg
    ∧ (s.refused r).time = s.time ∧ (s.refused r).phases = s.phases ∧ (s.refused r).budget = s.budget
    ∧ (s.refused r).nbrs = s.nbrs ∧ (s.refused r).comps = s.comps ∧ (s.refused r).svc = s.svc
    ∧ (s.refused r).pending = s.pending := by
  simp only [State.refused]
  (repeat' split) <;> simp

@[simp] theorem State.nak_frame (i : Nat) (g : Bool) :
    (s.nak i g).pins = s.pins ∧ (s.nak i g).station = s.station ∧ (s.nak i g).cfg = s.cfg
    ∧ (s.nak i g).time = s.time ∧ (s.nak i g).phases = s.phases ∧ (s.nak i g).budget = s.budget
    ∧ (s.nak i g).nbrs = s.nbrs ∧ (s.nak i g).comps = s.comps ∧ (s.nak i g).svc = s.svc
    ∧ (s.nak i g).pending = s.pending := by
  simp only [State.nak]
  (repeat' split) <;> simp

@[simp] theorem State.closedTaken_frame (r : Req) (x : Phase) :
    (s.closedTaken r x).pins = s.pins ∧ (s.closedTaken r x).station = s.station
    ∧ (s.closedTaken r x).cfg = s.cfg ∧ (s.closedTaken r x).time = s.time ∧ (s.closedTaken r x).phases = s.phases
    ∧ (s.closedTaken r x).budget = s.budget ∧ (s.closedTaken r x).nbrs = s.nbrs
    ∧ (s.closedTaken r x).comps = s.comps ∧ (s.closedTaken r x).svc = s.svc
    ∧ (s.closedTaken r x).pending = s.pending := by
  simp only [State.closedTaken]
  (repeat' split) <;> simp

@[simp] theorem State.closed_frame (i : Nat) (x : Phase) (g : Bool) :
    (s.closed i x g).pins = s.pins ∧ (s.closed i x g).station = s.station ∧ (s.closed i x g).cfg = s.cfg
    ∧ (s.closed i x g).time = s.time ∧ (s.closed i x g).phases = s.phases ∧ (s.closed i x g).budget = s.budget
    ∧ (s.closed i x g).nbrs = s.nbrs ∧ (s.closed i x g).comps = s.comps ∧ (s.closed i x g).svc = s.svc
    ∧ (s.closed i x g).pending = s.pending := by
  simp only [State.closed]
  (repeat' split) <;> simp

@[simp] theorem State.queryTaken_frame (r : Req) (x : Option Phase) :
    (s.queryTaken r x).pins = s.pins ∧ (s.queryTaken r x).cfg = s.cfg ∧ (s.queryTaken r x).time = s.time
    ∧ (s.queryTaken r x).phases = s.phases ∧ (s.queryTaken r x).budget = s.budget
    ∧ (s.queryTaken r x).nbrs = s.nbrs ∧ (s.queryTaken r x).comps = s.comps ∧ (s.queryTaken r x).svc = s.svc
    ∧ (s.queryTaken r x).pending = s.pending := by
  simp only [State.queryTaken]
  (repeat' split) <;> simp

@[simp] theorem State.queryAnswer_frame (i : Nat) (x : Option Phase) (g : Bool) :
    (s.queryAnswer i x g).pins = s.pins ∧ (s.queryAnswer i x g).cfg = s.cfg
    ∧ (s.queryAnswer i x g).time = s.time ∧ (s.queryAnswer i x g).phases = s.phases
    ∧ (s.queryAnswer i x g).budget = s.budget ∧ (s.queryAnswer i x g).nbrs = s.nbrs
    ∧ (s.queryAnswer i x g).comps = s.comps ∧ (s.queryAnswer i x g).svc = s.svc
    ∧ (s.queryAnswer i x g).pending = s.pending := by
  simp only [State.queryAnswer]
  (repeat' split) <;> simp

@[simp] theorem State.armTimeout_frame :
    (s.armTimeout).pins = s.pins ∧ (s.armTimeout).station = s.station ∧ (s.armTimeout).cfg = s.cfg
    ∧ (s.armTimeout).time = s.time ∧ (s.armTimeout).phases = s.phases ∧ (s.armTimeout).budget = s.budget
    ∧ (s.armTimeout).nbrs = s.nbrs ∧ (s.armTimeout).comps = s.comps ∧ (s.armTimeout).svc = s.svc
    ∧ (s.armTimeout).pending = s.pending := by
  simp only [State.armTimeout]
  (repeat' split) <;>
    first
    | (obtain ⟨q, -, -, -, rfl⟩ := s.expired_some _ _ (by assumption); simp)
    | simp

@[simp] theorem State.breakTimeout_frame :
    (s.breakTimeout).pins = s.pins ∧ (s.breakTimeout).station = s.station ∧ (s.breakTimeout).cfg = s.cfg
    ∧ (s.breakTimeout).time = s.time ∧ (s.breakTimeout).phases = s.phases ∧ (s.breakTimeout).budget = s.budget
    ∧ (s.breakTimeout).nbrs = s.nbrs ∧ (s.breakTimeout).comps = s.comps ∧ (s.breakTimeout).svc = s.svc
    ∧ (s.breakTimeout).pending = s.pending := by
  simp only [State.breakTimeout]
  (repeat' split) <;>
    first
    | (obtain ⟨q, -, -, -, rfl⟩ := s.expired_some _ _ (by assumption); simp)
    | simp

@[simp] theorem State.closedTimeout_frame :
    (s.closedTimeout).pins = s.pins ∧ (s.closedTimeout).station = s.station ∧ (s.closedTimeout).cfg = s.cfg
    ∧ (s.closedTimeout).time = s.time ∧ (s.closedTimeout).phases = s.phases ∧ (s.closedTimeout).budget = s.budget
    ∧ (s.closedTimeout).nbrs = s.nbrs ∧ (s.closedTimeout).comps = s.comps ∧ (s.closedTimeout).svc = s.svc
    ∧ (s.closedTimeout).pending = s.pending := by
  simp only [State.closedTimeout]
  (repeat' split) <;>
    first
    | (obtain ⟨q, -, -, -, rfl⟩ := s.expired_some _ _ (by assumption); simp)
    | simp

@[simp] theorem State.gapLimit_frame :
    (s.gapLimit).pins = s.pins ∧ (s.gapLimit).station = s.station ∧ (s.gapLimit).cfg = s.cfg
    ∧ (s.gapLimit).time = s.time ∧ (s.gapLimit).phases = s.phases ∧ (s.gapLimit).budget = s.budget
    ∧ (s.gapLimit).nbrs = s.nbrs ∧ (s.gapLimit).comps = s.comps ∧ (s.gapLimit).svc = s.svc
    ∧ (s.gapLimit).pending = s.pending := by
  simp only [State.gapLimit]
  (repeat' split) <;>
    first
    | (obtain ⟨q, -, -, -, rfl⟩ := s.expired_some _ _ (by assumption); simp)
    | simp

@[simp] theorem State.fallbackWaitLimit_frame :
    (s.fallbackWaitLimit).pins = s.pins ∧ (s.fallbackWaitLimit).station = s.station
    ∧ (s.fallbackWaitLimit).cfg = s.cfg ∧ (s.fallbackWaitLimit).time = s.time
    ∧ (s.fallbackWaitLimit).phases = s.phases ∧ (s.fallbackWaitLimit).budget = s.budget
    ∧ (s.fallbackWaitLimit).nbrs = s.nbrs ∧ (s.fallbackWaitLimit).comps = s.comps
    ∧ (s.fallbackWaitLimit).svc = s.svc ∧ (s.fallbackWaitLimit).pending = s.pending := by
  simp only [State.fallbackWaitLimit]
  (repeat' split) <;>
    first
    | (obtain ⟨q, -, -, -, rfl⟩ := s.expired_some _ _ (by assumption); simp)
    | simp

@[simp] theorem State.recoveryWaitLimit_frame :
    (s.recoveryWaitLimit).pins = s.pins ∧ (s.recoveryWaitLimit).station = s.station
    ∧ (s.recoveryWaitLimit).cfg = s.cfg ∧ (s.recoveryWaitLimit).time = s.time
    ∧ (s.recoveryWaitLimit).phases = s.phases ∧ (s.recoveryWaitLimit).budget = s.budget
    ∧ (s.recoveryWaitLimit).nbrs = s.nbrs ∧ (s.recoveryWaitLimit).comps = s.comps
    ∧ (s.recoveryWaitLimit).svc = s.svc ∧ (s.recoveryWaitLimit).pending = s.pending := by
  simp only [State.recoveryWaitLimit]
  (repeat' split) <;>
    first
    | (obtain ⟨q, -, -, -, rfl⟩ := s.expired_some _ _ (by assumption); simp)
    | simp

@[simp] theorem State.queryTimeout_frame :
    (s.queryTimeout).pins = s.pins ∧ (s.queryTimeout).cfg = s.cfg ∧ (s.queryTimeout).time = s.time
    ∧ (s.queryTimeout).phases = s.phases ∧ (s.queryTimeout).budget = s.budget ∧ (s.queryTimeout).nbrs = s.nbrs
    ∧ (s.queryTimeout).comps = s.comps ∧ (s.queryTimeout).svc = s.svc ∧ (s.queryTimeout).pending = s.pending := by
  simp only [State.queryTimeout]
  (repeat' split) <;>
    first
    | (obtain ⟨q, -, -, -, rfl⟩ := s.expired_some _ _ (by assumption); simp)
    | simp

@[simp] theorem State.quietGap_frame :
    (s.quietGap).pins = s.pins ∧ (s.quietGap).station = s.station ∧ (s.quietGap).cfg = s.cfg
    ∧ (s.quietGap).time = s.time ∧ (s.quietGap).phases = s.phases ∧ (s.quietGap).meas = s.meas
    ∧ (s.quietGap).conns = s.conns ∧ (s.quietGap).budget = s.budget ∧ (s.quietGap).nbrs = s.nbrs
    ∧ (s.quietGap).planner = s.planner ∧ (s.quietGap).comps = s.comps ∧ (s.quietGap).flags = s.flags
    ∧ (s.quietGap).svc = s.svc ∧ (s.quietGap).pending = s.pending := by
  simp only [State.quietGap]
  (repeat' split) <;> simp

@[simp] theorem State.deferralEnd_frame :
    (s.deferralEnd).pins = s.pins ∧ (s.deferralEnd).station = s.station ∧ (s.deferralEnd).cfg = s.cfg
    ∧ (s.deferralEnd).time = s.time ∧ (s.deferralEnd).phases = s.phases ∧ (s.deferralEnd).meas = s.meas
    ∧ (s.deferralEnd).conns = s.conns ∧ (s.deferralEnd).budget = s.budget ∧ (s.deferralEnd).nbrs = s.nbrs
    ∧ (s.deferralEnd).planner = s.planner ∧ (s.deferralEnd).comps = s.comps ∧ (s.deferralEnd).flags = s.flags
    ∧ (s.deferralEnd).svc = s.svc ∧ (s.deferralEnd).pending = s.pending := by
  simp only [State.deferralEnd]
  (repeat' split) <;> simp

/-! ### Reset, loading and the service link -/

@[simp] theorem State.powerOn_frame :
    (s.powerOn).draws = s.draws ∧ (s.powerOn).out = s.out ∧ (s.powerOn).pending = s.pending := by simp [State.powerOn]

@[simp] theorem State.beginRead_frame :
    (s.beginRead).pins = s.pins ∧ (s.beginRead).cfg = s.cfg ∧ (s.beginRead).time = s.time
    ∧ (s.beginRead).phases = s.phases ∧ (s.beginRead).meas = s.meas ∧ (s.beginRead).conns = s.conns
    ∧ (s.beginRead).engine = s.engine ∧ (s.beginRead).budget = s.budget ∧ (s.beginRead).line = s.line
    ∧ (s.beginRead).nbrs = s.nbrs ∧ (s.beginRead).planner = s.planner ∧ (s.beginRead).comps = s.comps
    ∧ (s.beginRead).flags = s.flags ∧ (s.beginRead).svc = s.svc ∧ (s.beginRead).draws = s.draws
    ∧ (s.beginRead).pending = s.pending := by simp [State.beginRead]

@[simp] theorem State.pornRise_frame :
    (s.pornRise).draws = s.draws ∧ (s.pornRise).pending = s.pending := by
  simp only [State.pornRise]
  split <;> simp [State.powerOn]

@[simp] theorem State.enterConfigFault_frame :
    (s.enterConfigFault).pins = s.pins ∧ (s.enterConfigFault).cfg = s.cfg ∧ (s.enterConfigFault).time = s.time
    ∧ (s.enterConfigFault).phases = s.phases ∧ (s.enterConfigFault).meas = s.meas
    ∧ (s.enterConfigFault).conns = s.conns ∧ (s.enterConfigFault).engine = s.engine
    ∧ (s.enterConfigFault).budget = s.budget ∧ (s.enterConfigFault).line = s.line
    ∧ (s.enterConfigFault).nbrs = s.nbrs ∧ (s.enterConfigFault).planner = s.planner
    ∧ (s.enterConfigFault).comps = s.comps ∧ (s.enterConfigFault).flags = s.flags
    ∧ (s.enterConfigFault).svc = s.svc ∧ (s.enterConfigFault).draws = s.draws ∧ (s.enterConfigFault).out = s.out
    ∧ (s.enterConfigFault).pending = s.pending := by simp [State.enterConfigFault]

@[simp] theorem State.endLoading_frame (c : Machine.Clamped Cfg) :
    (s.endLoading c).pins = s.pins ∧ (s.endLoading c).time = s.time ∧ (s.endLoading c).phases = s.phases
    ∧ (s.endLoading c).budget = s.budget ∧ (s.endLoading c).nbrs = s.nbrs ∧ (s.endLoading c).comps = s.comps
    ∧ (s.endLoading c).svc = s.svc ∧ (s.endLoading c).pending = s.pending := by simp [State.endLoading]

@[simp] theorem State.imageReadIn_frame (b : List Byte) :
    (s.imageReadIn b).pins = s.pins ∧ (s.imageReadIn b).time = s.time ∧ (s.imageReadIn b).phases = s.phases
    ∧ (s.imageReadIn b).budget = s.budget ∧ (s.imageReadIn b).nbrs = s.nbrs ∧ (s.imageReadIn b).comps = s.comps
    ∧ (s.imageReadIn b).svc = s.svc ∧ (s.imageReadIn b).pending = s.pending := by
  simp only [State.imageReadIn]
  (repeat' split) <;> simp

@[simp] theorem State.attemptReadFailed_frame :
    (s.attemptReadFailed).pins = s.pins ∧ (s.attemptReadFailed).cfg = s.cfg
    ∧ (s.attemptReadFailed).time = s.time ∧ (s.attemptReadFailed).phases = s.phases
    ∧ (s.attemptReadFailed).meas = s.meas ∧ (s.attemptReadFailed).conns = s.conns
    ∧ (s.attemptReadFailed).engine = s.engine ∧ (s.attemptReadFailed).budget = s.budget
    ∧ (s.attemptReadFailed).line = s.line ∧ (s.attemptReadFailed).nbrs = s.nbrs
    ∧ (s.attemptReadFailed).planner = s.planner ∧ (s.attemptReadFailed).comps = s.comps
    ∧ (s.attemptReadFailed).flags = s.flags ∧ (s.attemptReadFailed).svc = s.svc
    ∧ (s.attemptReadFailed).draws = s.draws ∧ (s.attemptReadFailed).out = s.out
    ∧ (s.attemptReadFailed).pending = s.pending := by
  simp only [State.attemptReadFailed]
  (repeat' split) <;> simp

@[simp] theorem State.readRetry_frame :
    (s.readRetry).pins = s.pins ∧ (s.readRetry).cfg = s.cfg ∧ (s.readRetry).time = s.time
    ∧ (s.readRetry).phases = s.phases ∧ (s.readRetry).meas = s.meas ∧ (s.readRetry).conns = s.conns
    ∧ (s.readRetry).engine = s.engine ∧ (s.readRetry).budget = s.budget ∧ (s.readRetry).line = s.line
    ∧ (s.readRetry).nbrs = s.nbrs ∧ (s.readRetry).planner = s.planner ∧ (s.readRetry).comps = s.comps
    ∧ (s.readRetry).flags = s.flags ∧ (s.readRetry).svc = s.svc ∧ (s.readRetry).draws = s.draws
    ∧ (s.readRetry).pending = s.pending := by
  simp only [State.readRetry]
  (repeat' split) <;> simp

@[simp] theorem State.resetnFall_frame :
    (s.resetnFall).cfg = s.cfg ∧ (s.resetnFall).phases = s.phases ∧ (s.resetnFall).pending = s.pending := by
  simp only [State.resetnFall]
  (repeat' split) <;> simp

@[simp] theorem State.resetnRise_frame :
    (s.resetnRise).cfg = s.cfg ∧ (s.resetnRise).time = s.time ∧ (s.resetnRise).phases = s.phases
    ∧ (s.resetnRise).budget = s.budget ∧ (s.resetnRise).nbrs = s.nbrs ∧ (s.resetnRise).comps = s.comps
    ∧ (s.resetnRise).svc = s.svc ∧ (s.resetnRise).pending = s.pending := by
  simp only [State.resetnRise]
  (repeat' split) <;> simp

@[simp] theorem State.dropFrame_frame (b : List Byte) :
    (s.dropFrame b).pins = s.pins ∧ (s.dropFrame b).station = s.station ∧ (s.dropFrame b).cfg = s.cfg
    ∧ (s.dropFrame b).time = s.time ∧ (s.dropFrame b).phases = s.phases ∧ (s.dropFrame b).meas = s.meas
    ∧ (s.dropFrame b).conns = s.conns ∧ (s.dropFrame b).engine = s.engine ∧ (s.dropFrame b).budget = s.budget
    ∧ (s.dropFrame b).line = s.line ∧ (s.dropFrame b).nbrs = s.nbrs ∧ (s.dropFrame b).planner = s.planner
    ∧ (s.dropFrame b).comps = s.comps ∧ (s.dropFrame b).flags = s.flags ∧ (s.dropFrame b).draws = s.draws
    ∧ (s.dropFrame b).out = s.out ∧ (s.dropFrame b).pending = s.pending := by simp [State.dropFrame]

@[simp] theorem State.dropRest_frame (b : List Byte) :
    (s.dropRest b).pins = s.pins ∧ (s.dropRest b).station = s.station ∧ (s.dropRest b).cfg = s.cfg
    ∧ (s.dropRest b).time = s.time ∧ (s.dropRest b).phases = s.phases ∧ (s.dropRest b).meas = s.meas
    ∧ (s.dropRest b).conns = s.conns ∧ (s.dropRest b).engine = s.engine ∧ (s.dropRest b).budget = s.budget
    ∧ (s.dropRest b).line = s.line ∧ (s.dropRest b).nbrs = s.nbrs ∧ (s.dropRest b).planner = s.planner
    ∧ (s.dropRest b).comps = s.comps ∧ (s.dropRest b).flags = s.flags ∧ (s.dropRest b).draws = s.draws
    ∧ (s.dropRest b).out = s.out ∧ (s.dropRest b).pending = s.pending := by
  simp only [State.dropRest]
  (repeat' split) <;> simp

@[simp] theorem State.droppedFrameEnd_frame :
    (s.droppedFrameEnd).pins = s.pins ∧ (s.droppedFrameEnd).station = s.station
    ∧ (s.droppedFrameEnd).cfg = s.cfg ∧ (s.droppedFrameEnd).time = s.time ∧ (s.droppedFrameEnd).phases = s.phases
    ∧ (s.droppedFrameEnd).meas = s.meas ∧ (s.droppedFrameEnd).conns = s.conns
    ∧ (s.droppedFrameEnd).engine = s.engine ∧ (s.droppedFrameEnd).budget = s.budget
    ∧ (s.droppedFrameEnd).line = s.line ∧ (s.droppedFrameEnd).nbrs = s.nbrs
    ∧ (s.droppedFrameEnd).planner = s.planner ∧ (s.droppedFrameEnd).comps = s.comps
    ∧ (s.droppedFrameEnd).flags = s.flags ∧ (s.droppedFrameEnd).draws = s.draws ∧ (s.droppedFrameEnd).out = s.out
    ∧ (s.droppedFrameEnd).pending = s.pending := by
  simp only [State.droppedFrameEnd]
  (repeat' split) <;> simp

@[simp] theorem State.byteGap_frame :
    (s.byteGap).pins = s.pins ∧ (s.byteGap).station = s.station ∧ (s.byteGap).cfg = s.cfg
    ∧ (s.byteGap).time = s.time ∧ (s.byteGap).phases = s.phases ∧ (s.byteGap).meas = s.meas
    ∧ (s.byteGap).conns = s.conns ∧ (s.byteGap).engine = s.engine ∧ (s.byteGap).budget = s.budget
    ∧ (s.byteGap).line = s.line ∧ (s.byteGap).nbrs = s.nbrs ∧ (s.byteGap).planner = s.planner
    ∧ (s.byteGap).comps = s.comps ∧ (s.byteGap).flags = s.flags ∧ (s.byteGap).draws = s.draws
    ∧ (s.byteGap).out = s.out ∧ (s.byteGap).pending = s.pending := by
  simp only [State.byteGap]
  (repeat' split) <;> simp

@[simp] theorem State.startByte_frame :
    (s.startByte).pins = s.pins ∧ (s.startByte).station = s.station ∧ (s.startByte).cfg = s.cfg
    ∧ (s.startByte).time = s.time ∧ (s.startByte).phases = s.phases ∧ (s.startByte).meas = s.meas
    ∧ (s.startByte).conns = s.conns ∧ (s.startByte).engine = s.engine ∧ (s.startByte).budget = s.budget
    ∧ (s.startByte).line = s.line ∧ (s.startByte).nbrs = s.nbrs ∧ (s.startByte).planner = s.planner
    ∧ (s.startByte).comps = s.comps ∧ (s.startByte).flags = s.flags ∧ (s.startByte).draws = s.draws
    ∧ (s.startByte).out = s.out ∧ (s.startByte).pending = s.pending := by
  simp only [State.startByte]
  (repeat' split) <;> simp

@[simp] theorem State.responseEnd_frame :
    (s.responseEnd).pins = s.pins ∧ (s.responseEnd).cfg = s.cfg ∧ (s.responseEnd).phases = s.phases
    ∧ (s.responseEnd).pending = s.pending := by
  simp only [State.responseEnd]
  (repeat' split) <;> simp

end Sys2Proof.Machine
end

