-- ==== Sys2Proof/WellFormed.lean ====
section
/-! DEFINITION. When the operands of a command lie within what the spec's own ports can offer. The machine gives every
command a meaning, well-formed or not; the check says which terms are events of the spec. -/

namespace Sys2Proof

/-- A connection index is 0 to 31 (section 2, "Numbering"). -/
def okIndex (i : Nat) : Bool := decide (i < 32)

/-- A neighbour table slot is 0 to 15 (R109). -/
def okSlot (k : Nat) : Bool := decide (k < 16)

/-- A request payload is at most 19 bytes long: a longer one is malformed (R177, R189). -/
def okPayload (l : List Byte) : Bool := decide (l.length ≤ 19)

/-- A kind byte that names one of the eleven requests (section 12.4). -/
def namesRequest (k : Byte) : Bool := decide (1 ≤ k.toNat) && decide (k.toNat ≤ 11)

/-- The operands are those the spec's ports can offer. -/
def Instr.wf : Instr → Bool
  | .readAttemptSuccess image => decide (image.length = 256)
  | .acceptedRecord readings _ => decide (readings.length = 32)
  | .dwellEnd i | .recoveryRetryDue i => okIndex i
  | .ready i _ _ | .notReady i _ | .opened i _ | .nak i _ | .closed i _ _ | .queryAnswer i _ _ => okIndex i
  | .staleAge k | .forgetAge k | .intentLifetimeEnd k | .peerHoldEnd k => okSlot k
  | .status p | .readConnection p | .readNeighbour p | .readEvents p | .clearEvents p | .release p | .override p
  | .lock p | .hold p | .restart p | .ident p => okPayload p
  | .unknownRequestKind k p => okPayload p && !namesRequest k
  | .powerOnReset | .pornRise | .readAttemptFailure | .busHeldLowTimeout | .readRetryWaitExpiry | .resetnFall
  | .resetnRise | .crossing _ _ | .secondsTick | .crossingWatchExpiry _ | .dataReady _ | .recordAbandoned
  | .measurementStale | .armTimeout | .breakTimeout | .closedTimeout | .queryTimeout | .gapLimit | .fallbackWaitLimit
  | .recoveryWaitLimit | .samplingWindowEnd | .monitoringWindowEnd | .throttleExpiry | .lcdActive | .loadFrame _
  | .intentFrame _ | .outcomeFrame _ | .holdFrame _ | .discardedFrame _ | .quietGap | .deferralEnd
  | .transmissionComplete | .holdRemainingEnd | .evaluationTimerExpiry | .reportTimerExpiry | .announceLimitExpiry
  | .listenTimerExpiry | .ownLifetimeExpiry | .ownHoldEnd | .listenOnlyTimerExpiry | .malformedFrame _
  | .serviceByteGap | .overrun | .responseEnd | .lcdInactive | .droppedFrameEnd => true

end Sys2Proof
end

