-- ==== Sys2Proof/Laws/PerInstr.lean ====
section
/-! SUPPORT. One family of lemmas, a lemma for each command: no word of any length spells it, because the table gives the rows of
this block no bits. -/

namespace Sys2Proof.Laws.Unspelled

/-- No word spells the command. -/
def Statement (i : Instr) : Prop := ∀ nbits w, decodeTableWord nbits w ≠ some i

theorem powerOnReset : Statement .powerOnReset := by
  simp [Statement, decodeTableWord]

theorem pornRise : Statement .pornRise := by
  simp [Statement, decodeTableWord]

theorem readAttemptSuccess (image : List Byte) : Statement (.readAttemptSuccess image) := by
  simp [Statement, decodeTableWord]

theorem readAttemptFailure : Statement .readAttemptFailure := by
  simp [Statement, decodeTableWord]

theorem busHeldLowTimeout : Statement .busHeldLowTimeout := by
  simp [Statement, decodeTableWord]

theorem readRetryWaitExpiry : Statement .readRetryWaitExpiry := by
  simp [Statement, decodeTableWord]

theorem resetnFall : Statement .resetnFall := by
  simp [Statement, decodeTableWord]

theorem resetnRise : Statement .resetnRise := by
  simp [Statement, decodeTableWord]

theorem crossing (p : Phase) (e : Edge) : Statement (.crossing p e) := by
  simp [Statement, decodeTableWord]

theorem secondsTick : Statement .secondsTick := by
  simp [Statement, decodeTableWord]

theorem crossingWatchExpiry (p : Phase) : Statement (.crossingWatchExpiry p) := by
  simp [Statement, decodeTableWord]

theorem dataReady (window : Byte) : Statement (.dataReady window) := by
  simp [Statement, decodeTableWord]

theorem recordAbandoned : Statement .recordAbandoned := by
  simp [Statement, decodeTableWord]

theorem acceptedRecord (readings : List Reading) (volts : Ph3 Nat) : Statement (.acceptedRecord readings volts) := by
  simp [Statement, decodeTableWord]

theorem measurementStale : Statement .measurementStale := by
  simp [Statement, decodeTableWord]

theorem dwellEnd (i : Nat) : Statement (.dwellEnd i) := by
  simp [Statement, decodeTableWord]

theorem recoveryRetryDue (i : Nat) : Statement (.recoveryRetryDue i) := by
  simp [Statement, decodeTableWord]

theorem ready (i : Nat) (path : Option Phase) (good : Bool) : Statement (.ready i path good) := by
  simp [Statement, decodeTableWord]

theorem notReady (i : Nat) (good : Bool) : Statement (.notReady i good) := by
  simp [Statement, decodeTableWord]

theorem opened (i : Nat) (good : Bool) : Statement (.opened i good) := by
  simp [Statement, decodeTableWord]

theorem nak (i : Nat) (good : Bool) : Statement (.nak i good) := by
  simp [Statement, decodeTableWord]

theorem closed (i : Nat) (p : Phase) (good : Bool) : Statement (.closed i p good) := by
  simp [Statement, decodeTableWord]

theorem queryAnswer (i : Nat) (path : Option Phase) (good : Bool) : Statement (.queryAnswer i path good) := by
  simp [Statement, decodeTableWord]

theorem armTimeout : Statement .armTimeout := by
  simp [Statement, decodeTableWord]

theorem breakTimeout : Statement .breakTimeout := by
  simp [Statement, decodeTableWord]

theorem closedTimeout : Statement .closedTimeout := by
  simp [Statement, decodeTableWord]

theorem queryTimeout : Statement .queryTimeout := by
  simp [Statement, decodeTableWord]

theorem gapLimit : Statement .gapLimit := by
  simp [Statement, decodeTableWord]

theorem fallbackWaitLimit : Statement .fallbackWaitLimit := by
  simp [Statement, decodeTableWord]

theorem recoveryWaitLimit : Statement .recoveryWaitLimit := by
  simp [Statement, decodeTableWord]

theorem samplingWindowEnd : Statement .samplingWindowEnd := by
  simp [Statement, decodeTableWord]

theorem monitoringWindowEnd : Statement .monitoringWindowEnd := by
  simp [Statement, decodeTableWord]

theorem throttleExpiry : Statement .throttleExpiry := by
  simp [Statement, decodeTableWord]

theorem lcdActive : Statement .lcdActive := by
  simp [Statement, decodeTableWord]

theorem loadFrame (bytes : List Byte) : Statement (.loadFrame bytes) := by
  simp [Statement, decodeTableWord]

theorem intentFrame (bytes : List Byte) : Statement (.intentFrame bytes) := by
  simp [Statement, decodeTableWord]

theorem outcomeFrame (bytes : List Byte) : Statement (.outcomeFrame bytes) := by
  simp [Statement, decodeTableWord]

theorem holdFrame (bytes : List Byte) : Statement (.holdFrame bytes) := by
  simp [Statement, decodeTableWord]

theorem discardedFrame (bytes : List Byte) : Statement (.discardedFrame bytes) := by
  simp [Statement, decodeTableWord]

theorem staleAge (slot : Nat) : Statement (.staleAge slot) := by
  simp [Statement, decodeTableWord]

theorem forgetAge (slot : Nat) : Statement (.forgetAge slot) := by
  simp [Statement, decodeTableWord]

theorem intentLifetimeEnd (slot : Nat) : Statement (.intentLifetimeEnd slot) := by
  simp [Statement, decodeTableWord]

theorem peerHoldEnd (slot : Nat) : Statement (.peerHoldEnd slot) := by
  simp [Statement, decodeTableWord]

theorem quietGap : Statement .quietGap := by
  simp [Statement, decodeTableWord]

theorem deferralEnd : Statement .deferralEnd := by
  simp [Statement, decodeTableWord]

theorem transmissionComplete : Statement .transmissionComplete := by
  simp [Statement, decodeTableWord]

theorem holdRemainingEnd : Statement .holdRemainingEnd := by
  simp [Statement, decodeTableWord]

theorem evaluationTimerExpiry : Statement .evaluationTimerExpiry := by
  simp [Statement, decodeTableWord]

theorem reportTimerExpiry : Statement .reportTimerExpiry := by
  simp [Statement, decodeTableWord]

theorem announceLimitExpiry : Statement .announceLimitExpiry := by
  simp [Statement, decodeTableWord]

theorem listenTimerExpiry : Statement .listenTimerExpiry := by
  simp [Statement, decodeTableWord]

theorem ownLifetimeExpiry : Statement .ownLifetimeExpiry := by
  simp [Statement, decodeTableWord]

theorem ownHoldEnd : Statement .ownHoldEnd := by
  simp [Statement, decodeTableWord]

theorem listenOnlyTimerExpiry : Statement .listenOnlyTimerExpiry := by
  simp [Statement, decodeTableWord]

theorem status (payload : List Byte) : Statement (.status payload) := by
  simp [Statement, decodeTableWord]

theorem readConnection (payload : List Byte) : Statement (.readConnection payload) := by
  simp [Statement, decodeTableWord]

theorem readNeighbour (payload : List Byte) : Statement (.readNeighbour payload) := by
  simp [Statement, decodeTableWord]

theorem readEvents (payload : List Byte) : Statement (.readEvents payload) := by
  simp [Statement, decodeTableWord]

theorem clearEvents (payload : List Byte) : Statement (.clearEvents payload) := by
  simp [Statement, decodeTableWord]

theorem release (payload : List Byte) : Statement (.release payload) := by
  simp [Statement, decodeTableWord]

theorem override (payload : List Byte) : Statement (.override payload) := by
  simp [Statement, decodeTableWord]

theorem lock (payload : List Byte) : Statement (.lock payload) := by
  simp [Statement, decodeTableWord]

theorem hold (payload : List Byte) : Statement (.hold payload) := by
  simp [Statement, decodeTableWord]

theorem restart (payload : List Byte) : Statement (.restart payload) := by
  simp [Statement, decodeTableWord]

theorem ident (payload : List Byte) : Statement (.ident payload) := by
  simp [Statement, decodeTableWord]

theorem malformedFrame (bytes : List Byte) : Statement (.malformedFrame bytes) := by
  simp [Statement, decodeTableWord]

theorem serviceByteGap : Statement .serviceByteGap := by
  simp [Statement, decodeTableWord]

theorem overrun : Statement .overrun := by
  simp [Statement, decodeTableWord]

theorem responseEnd : Statement .responseEnd := by
  simp [Statement, decodeTableWord]

theorem lcdInactive : Statement .lcdInactive := by
  simp [Statement, decodeTableWord]

theorem unknownRequestKind (kind : Byte) (payload : List Byte) : Statement (.unknownRequestKind kind payload) := by
  simp [Statement, decodeTableWord]

theorem droppedFrameEnd : Statement .droppedFrameEnd := by
  simp [Statement, decodeTableWord]

end Sys2Proof.Laws.Unspelled
end

