-- ==== Sys2Proof/Laws/Service.lean ====
section
/-! SUPPORT. What the decisions of the service link leave as it was, and how a property of the state passes through the taking of
a request. -/

namespace Sys2Proof.Machine

variable (p : List Byte) (s : State)

@[simp] theorem decideStatus_state : (decideStatus p s).2 = s := by
  unfold decideStatus; split <;> rfl

@[simp] theorem decideReadConnection_state : (decideReadConnection p s).2 = s := by
  simp only [decideReadConnection, unlocked]; (repeat' split) <;> rfl

@[simp] theorem decideReadNeighbour_state : (decideReadNeighbour p s).2 = s := by
  simp only [decideReadNeighbour, unlocked]; (repeat' split) <;> rfl

@[simp] theorem decideIdent_state : (decideIdent p s).2 = s := by
  unfold decideIdent; split <;> rfl

@[simp] theorem decideUnknown_state : (decideUnknown p s).2 = s := by
  simp only [decideUnknown, unlocked]; split <;> rfl

/-- READ EVENTS changes the flags alone. -/
theorem decideReadEvents_state : (decideReadEvents p s).2 = { s with flags := (decideReadEvents p s).2.flags } := by
  simp only [decideReadEvents, unlocked]; (repeat' split) <;> rfl

/-- CLEAR EVENTS changes the flags and the overrun indicator alone. -/
theorem decideClearEvents_state :
    (decideClearEvents p s).2
      = { s with flags := (decideClearEvents p s).2.flags, svc := (decideClearEvents p s).2.svc } := by
  simp only [decideClearEvents, unlocked]; (repeat' split) <;> rfl

/-- OVERRIDE and LOCK change the station block alone. -/
theorem decideOverride_state : (decideOverride p s).2 = { s with station := (decideOverride p s).2.station } := by
  simp only [decideOverride, unlocked]; (repeat' split) <;> rfl

theorem decideLock_state : (decideLock p s).2 = { s with station := (decideLock p s).2.station } := by
  simp only [decideLock, unlocked]; (repeat' split) <;> rfl

/-- RESTART changes the service link alone. -/
theorem decideRestart_state : (decideRestart p s).2 = { s with svc := (decideRestart p s).2.svc } := by
  simp only [decideRestart, unlocked]; (repeat' split) <;> rfl

/-- HOLD either leaves the state or issues an own hold in ACTIVE. -/
theorem decideHold_state :
    (decideHold p s).2 = s ∨ (s.isActive = true ∧ ∃ d, 10 ≤ d ∧ d ≤ 600 ∧ (decideHold p s).2 = s.issueHold d .service) := by
  simp only [decideHold, unlocked]
  (repeat' split) <;> simp_all
  exact .inr ⟨_, (by assumption : _ ∧ _).1, (by assumption : _ ∧ _).2, rfl⟩

/-- RELEASE either leaves the state or releases a configured connection outside INVENTORY. -/
theorem decideRelease_state :
    (decideRelease p s).2 = s
      ∨ (s.mode.working = true ∧ s.mode ≠ .inventory
          ∧ ∃ i, i < 32 ∧ s.configured i = true ∧ (decideRelease p s).2 = (s.release i).2) := by
  simp only [decideRelease, unlocked]
  (repeat' split) <;> simp_all
  exact .inr ⟨_, by assumption, (by assumption : _ ∧ _).2, rfl⟩

/-- The request a kind byte names is one of the eleven, or none. -/
theorem decideKind_mem (k : Byte) :
    decideKind k ∈ [decideStatus, decideReadConnection, decideReadNeighbour, decideReadEvents, decideClearEvents,
      decideRelease, decideOverride, decideLock, decideHold, decideRestart, decideIdent, decideUnknown] := by
  unfold decideKind
  split <;> simp

/-- A whole request is gathered as itself. -/
theorem gathered_requestBytes (k : Byte) (p : List Byte) (h : p.length ≤ 19) :
    gathered (requestBytes k p) = .request k p [] := by
  have hl : (natByte (min 255 p.length)).toNat = p.length := by simp [natByte]; omega
  have h2 : (wordBytes (crc16 (natByte (min 255 p.length) :: k :: p))).length = 2 := rfl
  have ha : afterFrameBytes (requestBytes k p) = some [] := by
    simp only [requestBytes, List.cons_append, afterFrameBytes, hl]
    simp only [List.length_append, h2, show ¬19 < p.length by omega, if_false, List.length_cons,
      show ¬p.length + 1 + 2 < p.length + 3 by omega]
    simp [h2]
  have hs : serviceFrame? (requestBytes k p) = some (k, p) := by
    simp only [requestBytes, List.cons_append, serviceFrame?, hl]
    simp [h2, h]
  simp [gathered, gatherFrom, ha, hs]
/-- A property that ignores the service link and what has been sent passes through the arrival of a frame's bytes when it passes
through the decision of any request. -/
theorem takeFrameBytes_keeps (P : State → Prop) (hsvc : ∀ t v, P t → P { t with svc := v })
    (hout : ∀ t o, P t → P { t with out := o }) (h : P s) (hd : ∀ k q, P (decideKind k q s).2) :
    P (s.takeFrameBytes p) := by
  simp only [State.takeFrameBytes, State.dropRest]
  (repeat' split)
  all_goals first
    | exact h
    | exact hsvc _ _ h
    | exact hsvc _ _ (hout _ _ (hsvc _ _ (hd _ _)))

/-- The same for the taking of a request row. -/
theorem takeRequest_keeps (P : State → Prop) (hsvc : ∀ t v, P t → P { t with svc := v })
    (hout : ∀ t o, P t → P { t with out := o }) (k : Byte) (d : List Byte → State → Decision) (h : P s)
    (hd : P (d p s).2) (hk : ∀ j q, P (decideKind j q s).2) : P (s.takeRequest k p d) := by
  simp only [State.takeRequest]
  (repeat' split)
  · exact takeFrameBytes_keeps _ _ P hsvc hout h hk
  · exact hout _ _ (hsvc _ _ hd)
  · exact hout _ _ (hsvc _ _ hd)
  · exact hsvc _ _ h
  · exact h

end Sys2Proof.Machine
end

