-- ==== Sys2Proof/Tests/Slice0.lean ====
section
/-! SUPPORT. Small checks of the model: ill-formed commands refused, the spec's own worked figures, one step of each block, and for
every statement that has hypotheses a state that meets them all. -/

namespace Sys2Proof.Tests

open Sys2Proof Sys2Proof.Machine

-- The kernel evaluates these one after another: all at once they ask for more threads than a check may have.
set_option Elab.async false

/-! ### Well-formedness: an ill-formed term for each check -/

theorem test_wf_image_of_255_bytes : (Instr.readAttemptSuccess (List.replicate 255 0)).wf = false := by decide +kernel
theorem test_wf_record_of_31_readings :
    (Instr.acceptedRecord (List.replicate 31 ⟨0, true⟩) ⟨2300, 2300, 2300⟩).wf = false := by decide +kernel
theorem test_wf_connection_32 : (Instr.dwellEnd 32).wf = false := by decide
theorem test_wf_answer_from_32 : (Instr.closed 32 .A true).wf = false := by decide
theorem test_wf_slot_16 : (Instr.staleAge 16).wf = false := by decide
theorem test_wf_payload_of_20 : (Instr.status (List.replicate 20 0)).wf = false := by decide
theorem test_wf_known_kind_as_unknown : (Instr.unknownRequestKind 11 []).wf = false := by decide
theorem test_wf_ends_of_ranges :
    (Instr.dwellEnd 31).wf = true ∧ (Instr.staleAge 15).wf = true ∧ (Instr.status (List.replicate 19 0)).wf = true
      ∧ (Instr.unknownRequestKind 0 []).wf = true ∧ (Instr.unknownRequestKind 12 []).wf = true := by decide

/-! ### The spec's worked figures -/

/-- R187: the check value of the nine digits. -/
theorem test_crc_check_value : crc16 [0x31, 0x32, 0x33, 0x34, 0x35, 0x36, 0x37, 0x38, 0x39] = 0x29B1 := by decide +kernel

/-- R41. -/
theorem test_neutral_1081 : neutral ⟨1800, 900, 600⟩ = 1081 := by decide +kernel

/-- Section 2.3: the boundaries (8, 6, 14, 32) with a count of 20 become (8, 8, 14, 20), and index 8 lies in way 2. -/
theorem test_ways_of_a_short_count :
    (clampBounds 20 8 6 14 32).val = [8, 8, 14, 20] ∧ wayIn [8, 8, 14, 20] 7 = 0 ∧ wayIn [8, 8, 14, 20] 8 = 2
      ∧ wayIn [8, 8, 14, 20] 19 = 3 := by decide +kernel

/-! ### A small station -/

/-- A configuration of two movable connections on way 0, any phase allowed to both, no comparator enabled. -/
def cfg2 : Cfg :=
  { Cfg.blank with
    version := 1
    address := 7
    feeder := 0x1234
    count := 2
    bounds := [2, 2, 2, 2]
    conns := List.replicate 2 ⟨.movable, ⟨true, true, true⟩, .A⟩
    comps := List.replicate 4 ⟨false, .feederNeutral, .above, 0, .flag⟩ }

/-- A station ACTIVE on three phases, its two connections STEADY on A with 20.0 A each, everything else at rest. -/
def calm : State :=
  { State.reset with
    pins := ⟨false, false, false, ⟨false, false, false⟩⟩
    station := ⟨.active, none, false, List.replicate 32 none, .idle, 0⟩
    cfg := some cfg2
    time := ⟨100, true, some .A, false, ⟨true, true, true⟩, .mains, 0, 0⟩
    phases := Ph3.same ⟨true, true, false, 0⟩
    meas :=
      { Meas.initial with
        held := List.replicate 32 ⟨200, false, false, 0, none⟩
        vec := ⟨400, 0, 0⟩
        ways := [⟨400, 0, 0⟩, ⟨0, 0, 0⟩, ⟨0, 0, 0⟩, ⟨0, 0, 0⟩]
        fresh := true }
    conns := List.replicate 2 ⟨.steady, some .A, 0, 0, false, none, none, false⟩ ++ List.replicate 30 Conn.unconfigured
    budget := ⟨false, true, 0, 900, 0, 0, 0⟩ }

/-- The station in another mode. -/
def inMode (m : Mode) (s : State) : State := { s with station := { s.station with mode := m } }

/-- The station with a request in flight. -/
def busy (r : Req) (s : State) : State := { s with engine := { s.engine with req := some r } }

/-- Connection 0 with its record changed. -/
def conn0 (f : Conn → Conn) (s : State) : State := { s with conns := s.conns.modify 0 f }

/-- A move of connection 0 from A to B, at a step, its count run out. -/
def move0 (rescue : Bool) (st : MoveStep) : MoveReq := ⟨rescue, 0, .A, .B, 200, 0, st, 0⟩

/-- The station with that move in flight. -/
def moving (rescue : Bool) (st : MoveStep) : State :=
  busy (.move (move0 rescue st)) (conn0 (fun c => { c with st := .moving, note := some ⟨rescue, .A, .B⟩ }) calm)

/-- Connection 0 DARK and a member of the recovery set, its retry run out. -/
def dark0 (s : State) : State :=
  conn0 (fun c => { c with st := .dark, cur := none, member := some ⟨.recover, 0⟩ }) s

/-- The part held by PORN, and the part reading its image. -/
def held : State := State.reset
def reading : State :=
  { State.reset with
    pins := calm.pins
    station := { Station.initial with loader := .reading } }

/-- A planner EXECUTING a plan of the one move. -/
def executing (m : Move) : Planner :=
  { (Planner.initial 5) with st := .executing, plan := some ⟨[m], 1, [none], 0⟩ }

/-- A peer's entry, FRESH, with all it can hold. -/
def peer (a : Nat) : Entry :=
  ⟨a, true, 4, some ⟨100, 0, 0⟩, some ⟨⟨1, 0, 0⟩, false, false, false⟩, some 3, 0, some ⟨4, [⟨.A, .B, 50⟩], 9⟩, some ⟨30, .service⟩⟩

/-- A frame arriving, with the given table. -/
def hearing (l : List (Option Entry)) : State :=
  { calm.setLcd true with line := { calm.line with assembly := .underWay }, nbrs := l }

def onePeer : List (Option Entry) := some (peer 9) :: List.replicate 15 none

def load9 : LoadBody := ⟨⟨100, 0, 0⟩, ⟨1, 0, 0⟩, false, 0, some 4, false, false⟩

/-- The station with a divider tick due. -/
def tickDue (s : State) : State := { s with time := { s.time with ticksDue := 1 } }

/-- The station with a planner. -/
def planning (p : Planner) (s : State) : State := { s with planner := p }

/-- What a command leaves, looked at through a function. -/
def after {α : Type} (c : Instr) (s : State) (f : State → α) : Option α :=
  match exec c s with
  | .next t => some (f t)
  | .fault _ | .refused _ => none

/-! ### A good image, its check value taken piece by piece (R166, section 12.3) -/

def zeros : List Byte := List.replicate 61 0
def imageHead : List Byte := [1, 7, 0x12, 0x34, 50, 2, 2, 2, 2, 2]
def imageBody : List Byte := imageHead ++ zeros ++ zeros ++ zeros ++ zeros
def image : List Byte := imageBody ++ [0x8D, 0x7A]

theorem test_image_check_value : crc16 imageBody = 0x8D7A#16 := by
  have h0 : crc16 imageHead = 12521#16 := by decide +kernel
  have h1 : zeros.foldl crcByte 12521#16 = 19678#16 := by decide +kernel
  have h2 : zeros.foldl crcByte 19678#16 = 39911#16 := by decide +kernel
  have h3 : zeros.foldl crcByte 39911#16 = 53333#16 := by decide +kernel
  have h4 : zeros.foldl crcByte 53333#16 = 0x8D7A#16 := by decide +kernel
  unfold crc16 at h0 ⊢
  simp only [imageBody, List.foldl_append]
  rw [h0, h1, h2, h3, h4]

/-- The good image, read whole. -/
theorem witness_LoadingTakesTheImage :
    reading.pins.pornLow = false ∧ reading.mode = .loading ∧ reading.station.loader = .reading
      ∧ image.length = 256 ∧ image.drop 254 = wordBytes (crc16 (image.take 254)) ∧ img8 image 0 = 1
      ∧ 1 ≤ img8 image 1 ∧ img8 image 1 ≤ 250 := by
  have h : image.take 254 = imageBody := by decide +kernel
  rw [h, test_image_check_value]
  decide +kernel

/-- The image is clamped (most of its settings are 0) and its two connections are FAULTED, the first query on its way. -/
theorem test_loading_ends_in_inventory :
    let t := reading.endLoading (clampImage image)
    t.mode = .inventory ∧ t.flagSet .configClamped = true ∧ t.conf.count = 2 ∧ t.conf.evalInt = 30
      ∧ (t.conn 1).st = .faulted ∧ (t.conn 2).st = .unconfigured ∧ t.engine.req = some (.inventory 0 5) := by decide +kernel

/-- An image of settings all in range. -/
def plainImage : List Byte :=
  imageHead ++ [0x09, 0xC4, 0x09, 0xC4, 0x09, 0xC4, 0x09, 0xC4] ++ ([0x0F, 0x0F] ++ List.replicate 30 0)
    ++ [2, 0, 50, 20, 0, 120, 0x03, 0x84, 10, 4, 20, 30, 0x03, 0x84, 12, 4, 0x01, 0x2C, 1, 0x07, 0x6C, 0, 120, 0, 0, 0]

theorem witness_LoadedSettingsInRange :
    (clampImage plainImage).changed = false ∧ (clampImage plainImage).val.evalInt = 120
      ∧ (clampImage plainImage).val.conns = List.replicate 2 ⟨.movable, ⟨true, true, true⟩, .A⟩
      ∧ 1 < (clampImage plainImage).val.count := by decide +kernel

/-! ### One step of each block -/

theorem test_counted_crossing : after (.crossing .A .negative) calm (fun t => (t.time.counter, t.time.divider)) = some (101, 1) := by
  decide +kernel
theorem test_crossing_of_another_phase : after (.crossing .B .negative) calm (·.time.counter) = some 100 := by decide +kernel
theorem test_counter_wraps :
    after (.crossing .A .negative) { calm with time := { calm.time with counter := 0xFFFFFFFF } } (·.time.counter) = some 0 := by
  decide +kernel

/-- Full divider: the fiftieth cycle gives a tick, and the tick ages the measurement. -/
theorem test_fiftieth_cycle_ticks :
    after (.crossing .A .negative) { calm with time := { calm.time with divider := 49 } }
      (fun t => (t.time.divider, t.time.ticksDue)) = some (0, 1) := by decide +kernel
theorem test_tick_ages_the_measurement :
    after .secondsTick { calm with time := { calm.time with ticksDue := 1 } } (fun t => (t.meas.age, t.time.ticksDue))
      = some (1, 0) := by decide +kernel

/-- R15: the third tick after a record makes the measurement STALE with MEASUREMENT_LOST, and ends a move in SETTLING; MEASUREMENT_STALE
finds nothing left. -/
theorem test_third_tick_goes_stale :
    let s (age : Nat) := tickDue
      { conn0 (fun c => { c with cur := some .B }) (moving true .settling) with meas := { calm.meas with age := age } }
    let look (t : State) := (t.meas.fresh, t.meas.age, t.flagSet .measurementLost, t.engine.req.isSome)
    after .secondsTick (s 2) look = some (false, 3, true, false) ∧ after .secondsTick (s 1) look = some (true, 2, false, true)
      ∧ after .measurementStale (s 2) look = some (true, 2, false, true) := by decide +kernel

/-- R5: a tick the divider has given is taken once, though the source is HOLDOVER by then; under MAINS none follows it. -/
theorem test_due_tick_is_taken_once :
    after .secondsTick (tickDue { calm with time := { calm.time with source := .holdover } })
      (fun t => (t.meas.age, t.time.ticksDue)) = some (1, 0)
      ∧ after .secondsTick calm (·.meas.age) = some 0 := by decide +kernel

/-- R121: the tick itself ends a peer's hold, and takes an entry at its stale age out of the views. -/
theorem test_tick_takes_the_table_whole :
    let s := tickDue { calm with nbrs :=
      [some { peer 9 with hold := some ⟨1, .service⟩ }, some { peer 10 with age := 89, hold := none }] ++ List.replicate 14 none }
    s.peerHeld = true ∧ after .secondsTick s (fun t => (t.peerHeld, t.feederView)) = some (false, ⟨500, 0, 0⟩) := by decide +kernel

/-- R28: the tick that brings a dwell to 0 makes a RESTING connection STEADY, and the next tick one that a rescue left with none, which
DWELL_END does not take before it. -/
theorem test_tick_ends_a_dwell :
    let s (dwell : Nat) (mark : Bool) := tickDue (conn0 (fun c => { c with st := .resting, dwell := dwell, unticked := mark }) calm)
    let look (t : State) := ((t.conn 0).st, (t.conn 0).dwell)
    after .secondsTick (s 1 false) look = some (.steady, 0) ∧ after .secondsTick (s 2 false) look = some (.resting, 1)
      ∧ after .secondsTick (s 0 true) look = some (.steady, 0) ∧ after (.dwellEnd 0) (s 0 true) look = some (.resting, 0) := by
  decide +kernel

/-- R25, R28: a rescue of a STEADY connection ends RESTING with no dwell, marked for the next tick. -/
theorem test_rescue_done_waits_for_the_tick :
    let t := (conn0 (fun c => { c with cur := some .B }) (moving true .settling)).endSettling
    ((t.conn 0).st, (t.conn 0).dwell, (t.conn 0).unticked) = (.resting, 0, true) := by decide +kernel

/-- R135, R138: a tick that clears the last intent in precedence releases a HELD planner. -/
theorem test_tick_releases_a_held_planner :
    let s := tickDue
      { planning { executing ⟨0, .A, .B, 200⟩ with st := .held, prec := [⟨9, 4⟩], lifetimeT := some 9 } calm with
        nbrs := some { peer 9 with intent := some ⟨4, [⟨.A, .B, 50⟩], 1⟩, vec := none, info := none } :: List.replicate 15 none }
    after .secondsTick s (fun t => (t.planner.st, t.engine.req)) = some (.executing, some (.move { move0 false .arming with cycles := 5 }))
    := by decide +kernel

/-- R58: while no cycle events come the row of a timeout counts the nominal cycles left, in the access as well: the first of the
five completes the gap of a frozen count of 6, the other four lower it. -/
theorem test_nominal_cycles_run_out :
    let s := { busy (.inventory 1 5) (inMode .inventory calm) with
      time := Time.initial, line := { calm.line with access := .frozen 6 (some 1) } }
    after .queryTimeout s (fun t => (t.line.access, t.mode)) = some (.defer 2, .listenOnly)
      ∧ after .queryTimeout { s with time := calm.time } (·.mode) = some .inventory := by decide +kernel

theorem test_reading_saturates :
    after (.acceptedRecord [⟨1001, true⟩, ⟨-5, false⟩] ⟨2300, 2300, 2300⟩) { calm with meas := { calm.meas with reading := some 9 } }
      (fun t => ((t.held 0).value, (t.held 0).saturated, (t.held 1).value, (t.held 1).invalid, t.meas.vec))
      = some (1000, true, 200, 1, ⟨1200, 0, 0⟩) := by decide +kernel

theorem test_low_voltage_loses_a_phase :
    after (.acceptedRecord [] ⟨2300, 1899, 2300⟩) { calm with meas := { calm.meas with reading := some 9 } }
      (fun t => (t.present .A, t.present .B, t.flagSet .phaseLost)) = some (true, false, true) := by decide +kernel

theorem test_lost_reference_moves_on :
    after (.crossingWatchExpiry .A) (busy (.check 0 5) calm)
      (fun t => (t.time.ref, t.time.changing, t.engine.rescue.map (·.conn))) = some (some .B, true, [0, 1]) := by decide +kernel

/-- R49's worked plan: 7 goes from A to C, then 12 from A to B. -/
def worked : State :=
  { calm with
    cfg := some
      { cfg2 with
        count := 13
        bounds := [13, 13, 13, 13]
        ratings := [6000, 2500, 2500, 2500]
        conns := (List.range 13).map fun i => ⟨if i = 7 ∨ i = 12 then .movable else .fixed, ⟨true, true, true⟩, .A⟩ }
    meas :=
      { calm.meas with
        held := (List.range 32).map fun i => ⟨if i = 7 then 320 else if i = 12 then 150 else 0, false, false, 0, none⟩
        vec := ⟨1800, 900, 600⟩
        ways := [⟨1800, 900, 600⟩, ⟨0, 0, 0⟩, ⟨0, 0, 0⟩, ⟨0, 0, 0⟩] }
    conns := List.replicate 13 ⟨.steady, some .A, 0, 0, false, none, none, false⟩ ++ List.replicate 19 Conn.unconfigured }

theorem test_two_move_plan : worked.buildPlan = [⟨7, .A, .C, 320⟩, ⟨12, .A, .B, 150⟩] := by decide +kernel

/-- The worked gains of its first step. -/
theorem test_worked_gains :
    gain ⟨1800, 900, 600⟩ .A .B 320 = 298 ∧ gain ⟨1800, 900, 600⟩ .A .C 320 = 511 ∧ gain ⟨1800, 900, 600⟩ .A .B 150 = 169
      ∧ gain ⟨1800, 900, 600⟩ .A .C 150 = 246 := by decide +kernel

theorem test_opened_enters_gap :
    after (.opened 0 true) (moving false .breakSent) (fun t => ((t.conn 0).cur, t.engine.req))
      = some (none, some (.move { move0 false .gap with cycles := 2 })) := by decide +kernel
theorem test_bad_check_value_is_no_answer :
    after (.opened 0 false) (moving false .breakSent) (fun t => (t.conn 0).cur) = some (some .A) := by decide +kernel

/-- The start that passes T throttles, and is not itself counted in the monitoring window. -/
theorem test_start_above_threshold_throttles :
    after (.ready 0 (some .A) true) { moving false .arming with budget := ⟨false, true, 12, 900, 0, 0, 0⟩ }
      (fun t => (t.budget, t.flagSet .throttled)) = some (⟨true, true, 13, 900, 3600, 300, 0⟩, true) := by decide +kernel

/-- R83, R86, R87: the tick that brings a window or the throttle period to 0 ends it, and the windows follow without a gap; at an expiry no
monitoring window begins, and the sampling window keeps its phase. -/
theorem test_tick_ends_the_windows :
    let look (b : Budget) := after .secondsTick (tickDue { calm with budget := b }) (·.budget)
    look ⟨true, true, 13, 1, 500, 1, 1⟩ = some ⟨true, true, 0, 900, 499, 300, 0⟩
      ∧ look ⟨true, true, 13, 7, 1, 1, 1⟩ = some ⟨false, true, 0, 6, 0, 0, 0⟩ := by decide +kernel

/-- R83: with a window of 900 s the boundaries fall at its whole multiples; SAMPLING_WINDOW_END finds none left. -/
theorem test_window_end_is_taken_once :
    after .samplingWindowEnd { calm with budget := ⟨false, true, 3, 900, 0, 0, 0⟩ } (·.budget)
      = some ⟨false, true, 3, 900, 0, 0, 0⟩ := by decide +kernel

theorem test_carrier_freezes_a_deferral :
    after .lcdActive { calm with line := { calm.line with access := .defer 4 } } (fun t => (t.line.access, t.line.assembly))
      = some (.frozen 4 none, .underWay) := by decide +kernel
theorem test_carrier_does_not_stop_a_sending :
    after .lcdActive { calm with line := { calm.line with access := .sending } } (fun t => (t.line.access, t.line.assembly))
      = some (.sending, .none) := by decide +kernel

/-- A LOCK answered OK: start byte, length 1, kind 8, code 0, check value over the three. -/
theorem test_lock_response :
    after (.lock []) calm (fun t => t.out.take 1) = some [.response ([0x7E, 1, 8, 0] ++ wordBytes (crc16 [1, 8, 0]))] := by
  decide +kernel
theorem test_clear_of_a_bad_code_clears_nothing :
    after (.clearEvents [0, 19]) { calm with flags := 1 } (·.flags) = some 1 := by decide +kernel
theorem test_clear_of_a_flag :
    after (.clearEvents [0]) { calm with flags := 3 } (·.flags) = some 2 := by decide +kernel

theorem test_blackout_abandons_a_move :
    let t := (moving true .breakSent).enterBlackout
    t.mode = .blackout ∧ t.engine.req = none ∧ (t.conn 0).st = .faulted ∧ (t.conn 0).cur = some .A := by decide +kernel

/-! ### Hypotheses met: the block as a whole, loading and restart -/

theorem witness_StepRunsFrontCommand :
    ({ calm with pending := [.lock [], .secondsTick] } : State).pending = .lock [] :: [.secondsTick] ∧ calm.pending = [] := ⟨rfl, rfl⟩

theorem witness_PowerOnResetAndPornLow :
    State.reset.pins.pornLow = true ∧ Instr.secondsTick ≠ .powerOnReset ∧ Instr.secondsTick ≠ .pornRise := by decide +kernel

/-- The first failure, the fourth, and the wait. -/
theorem witness_LoadingTakesTheImage_attempts :
    State.reset.pins.pornLow = true ∧ reading.pins.pornLow = false ∧ reading.mode = .loading
      ∧ reading.station.loader = .reading ∧ reading.station.failures < 3
      ∧ (reading.setLoader .reading 3).station.loader = .reading ∧ ¬(reading.setLoader .reading 3).station.failures < 3
      ∧ (reading.setLoader .waiting 1).mode = .loading ∧ (reading.setLoader .waiting 1).station.loader = .waiting := by
  decide +kernel

/-- A fall in ACTIVE and in LOADING, a rise in INVENTORY; a RESTART, the end of its response, and the end of another. -/
theorem witness_RestartsByPinAndByRequest :
    calm.pins.pornLow = false ∧ calm.pins.resetnLow = false ∧ calm.mode = .active
      ∧ reading.pins.pornLow = false ∧ reading.pins.resetnLow = false ∧ reading.mode = .loading
      ∧ (let s := (inMode .inventory calm).setResetn true
         s.pins.pornLow = false ∧ s.pins.resetnLow = true ∧ 0 < s.conf.count ∧ s.mode = .inventory)
      ∧ calm.mode.working = true ∧ calm.svc.rx = .idle
      ∧ (let s := { calm with svc := ⟨.responding, false, false, true⟩ }
         s.svc.rx = .responding ∧ s.svc.restartPending = true)
      ∧ (let s := { calm with svc := ⟨.responding, true, true, false⟩ }
         s.svc.rx = .responding ∧ s.svc.restartPending = false) := by decide +kernel

/-- A command that changes the override table, one that takes the configuration, and one that changes neither. -/
theorem witness_SettingsChangeOnlyAsRuled :
    (let s := { calm with station := { calm.station with overridesOpen := true } }
     after (.override [31, 1]) s (·.station.overrides) = some s.station.overrides
       ∧ (after (.override [1, 1]) s fun t => (t.overrideOf 1, t.overrideOf 0)) = some (some .fixed, none))
      ∧ reading.cfg = none ∧ (reading.endLoading (clampImage image)).cfg.isSome = true
      ∧ (∃ t, exec .secondsTick calm = .next t) := ⟨by decide +kernel, rfl, by decide +kernel, _, rfl⟩

/-! ### Hypotheses met: chapter 1 -/

theorem witness_CrossingReachesTheCounter :
    calm.pins.pornLow = false ∧ (calm.engine.req.all fun r => !r.waitsFor .A) = true
      ∧ ((moving false .gap).engine.req.all fun r => !r.waitsFor .A) = true := by decide +kernel

/-- Each of the four held commands. -/
theorem witness_CrossingSendsHeldCommand :
    calm.pins.pornLow = false
      ∧ (moving false .breakWait).engine.req = some (.move (move0 false .breakWait)) ∧ (move0 false .breakWait).src = .A
      ∧ (moving true .gap).engine.req = some (.move (move0 true .gap)) ∧ (move0 true .gap).dst = .B
      ∧ (moving true (.fbWait .C)).engine.req = some (.move (move0 true (.fbWait .C)))
      ∧ (busy (.recovery 0 (.wait .B) 2) (dark0 calm)).engine.req = some (.recovery 0 (.wait .B) 2) := by decide +kernel

/-- A HELD planner whose one peer's intent, and perhaps whose own lifetime, ends at the next tick. -/
def heldUntilTick (lifetime : Nat) : State :=
  tickDue
    { planning { executing ⟨0, .A, .B, 200⟩ with st := .held, prec := [⟨9, 4⟩], lifetimeT := some lifetime } calm with
      nbrs := some { peer 9 with intent := some ⟨4, [⟨.A, .B, 50⟩], 1⟩ } :: List.replicate 15 none }

/-- Under HOLDOVER, and under MAINS with no tick due; a table whose tick takes an entry STALE and another away; a HELD planner that
the tick releases, and one whose lifetime ends with it. -/
theorem witness_SecondsTickCountsEveryTimer :
    (∀ n ∈ [1, 2], (heldUntilTick n).pins.pornLow = false ∧ (heldUntilTick n).planner.st = .held
        ∧ (heldUntilTick n).mode = .active ∧ (heldUntilTick n).planner.plan ≠ none ∧ (heldUntilTick n).planner.prec ≠ []
        ∧ 0 < (heldUntilTick n).time.ticksDue)
      ∧ after .secondsTick (heldUntilTick 2) (fun t => (t.planner.st, t.planner.prec)) = some (.executing, [])
      ∧ (heldUntilTick 1).countSecond.planner.lifetimeT = some 0
      ∧ reading.pins.pornLow = false ∧ reading.time.source = .holdover ∧ calm.pins.pornLow = false ∧ calm.time.source = .mains
      ∧ calm.time.ticksDue = 0 ∧ calm.planner.st ≠ .held
      ∧ (let s := tickDue { calm with
            nbrs := [some { peer 9 with age := 89 }, some { (peer 10).staled with age := 299 }] ++ List.replicate 14 none }
         s.pins.pornLow = false ∧ s.planner.st ≠ .held ∧ 0 < s.time.ticksDue
           ∧ after .secondsTick s (fun t => ((t.slot 0).map (·.fresh), t.slot 1)) = some (some false, none)) := by
  decide +kernel

/-- A request that waits on phase A in each way a request can, one that does not, and a FREE engine; what becomes of each. -/
theorem witness_WatchExpiryLosesThePhase :
    (∀ r ∈ [none, some (.check 0 5), some (.move (move0 true .breakWait)), some (.move { move0 true .gap with src := .B, dst := .A }),
          some (.move (move0 true (.fbWait .A))), some (.recovery 0 (.wait .A) 2)],
        let s := { calm with engine := { calm.engine with req := r } }
        s.pins.pornLow = false ∧ s.present .A = true ∧ (s.phases.get .A).watch = true ∧ Phase.A ≠ Phase.B ∧ s.present .B = true
          ∧ s.time.ref = s.chosenRef)
      ∧ after (.crossingWatchExpiry .A) (moving true .breakWait) (fun t => (t.engine.req, t.out))
          = some (some (.move { move0 true .breakSent with cycles := 3 }), [.command (.break 0)])
      ∧ after (.crossingWatchExpiry .B) (moving false .gap) (fun t => t.engine.req)
          = some (some (.move { move0 false (.fbWait .A) with cycles := 2 }))
      ∧ after (.crossingWatchExpiry .C) (moving true (.fbWait .C)) (fun t => ((t.conn 0).st, t.planner.ownHold)) = some (.dark, 120)
      ∧ after (.crossingWatchExpiry .A) (busy (.recovery 0 (.wait .A) 2) (dark0 calm)) (fun t => ((t.conn 0).attempts, t.engine.req.isSome))
          = some (1, true)
      ∧ (let s := { moving true .gap with cfg := some { cfg2 with conns := List.replicate 2 ⟨.movable, ⟨false, true, false⟩, .B⟩ } }
         after (.crossingWatchExpiry .B) s (fun t => ((t.conn 0).st, t.flagSet .connectionDark)) = some (.dark, true)) := by
  decide +kernel

/-- One phase left, in ACTIVE and in LISTEN_ONLY. -/
def onePhase : State := { calm with phases := ⟨⟨true, true, false, 0⟩, PhaseSup.initial, PhaseSup.initial⟩ }

theorem witness_LastPhaseLossEntersBlackout :
    onePhase.pins.pornLow = false ∧ onePhase.mode = .active ∧ (inMode .listenOnly onePhase).mode = .listenOnly
      ∧ onePhase.present .A = true ∧ (onePhase.phases.get .A).watch = true
      ∧ (∀ q, q ≠ Phase.A → onePhase.present q = false)
      ∧ (∀ st ∈ [MoveStep.breakWait, MoveStep.gap, MoveStep.settling],
          let s := moving true st
          s.engine.req = some (.move (move0 true st)) ∧ 0 < s.conns.length ∧ (s.conn 0).member = none)
      ∧ (busy (.recovery 0 (.wait .A) 2) (dark0 onePhase)).engine.req = some (.recovery 0 (.wait .A) 2)
      ∧ (busy (.check 0 5) onePhase).engine.req = some (.check 0 5) := by
  refine ⟨by decide +kernel, by decide +kernel, by decide +kernel, by decide +kernel, by decide +kernel, ?_, by decide +kernel,
    by decide +kernel, by decide +kernel⟩
  intro q hq
  cases q <;> first | exact absurd rfl hq | decide +kernel

/-- At an age of 2 and at an age of 3; an unripe OUTCOME takes its vector. -/
theorem witness_RecordsTakenAndMeasurementStale :
    calm.pins.pornLow = false
      ∧ after .measurementStale { calm with meas := { calm.meas with age := 2 } } (·.meas.fresh) = some true
      ∧ after .measurementStale
          { calm with
            meas := { calm.meas with age := 3 }
            line := { calm.line with qOutcome := some ⟨5, true, [.done], none⟩ } }
          (fun t => (t.meas.fresh, t.line.qOutcome.map (·.vec))) = some (false, some (some ⟨400, 0, 0⟩)) := by
  decide +kernel

/-- Voltages at the loss threshold itself. -/
theorem witness_AcceptedRecordIsHandled :
    let s := { calm with meas := { calm.meas with reading := some 9 } }
    s.pins.pornLow = false ∧ s.meas.reading = some 9
      ∧ (∀ p, s.present p = true ∧ s.conf.lossThr ≤ (⟨1900, 1900, 1900⟩ : Ph3 Nat).get p)
      ∧ (∀ d ∈ s.conf.comps, d.enable = false) ∧ (s.engine.req.all fun r => !r.settles) = true := by
  refine ⟨by decide +kernel, by decide +kernel, ?_, by decide +kernel, by decide +kernel⟩
  intro p
  cases p <;> decide +kernel

/-- Just below and at the loss threshold; one and two records at the return threshold; the return in BLACKOUT. -/
theorem witness_RecordLosesAndReturnsPhases :
    calm.pins.pornLow = false ∧ calm.present .B = true ∧ (calm.phases.get .B).watch = true
      ∧ calm.conf.lossThr = 1900
      ∧ ((calm.supervise ⟨1899, 1900, 2300⟩).present .A, (calm.supervise ⟨1899, 1900, 2300⟩).present .B) = (false, true)
      ∧ (let s := { calm with phases := ⟨⟨true, true, false, 0⟩, ⟨false, false, true, 1⟩, ⟨false, false, false, 1⟩⟩ }
         let t := s.supervise ⟨2300, 1950, 1950⟩
         (t.present .B, t.present .C, (t.phases.get .C).returns) = (true, false, 1) ∧ t.flagSet .phaseReturned = true)
      ∧ (let s := { inMode .blackout calm with phases := Ph3.same PhaseSup.initial }
         s.mode = .blackout ∧ (s.phaseReturn .C).mode = .listenOnly) := by decide +kernel

theorem calm_configured (i : Nat) (h : calm.configured i = true) : i = 0 ∨ i = 1 := by
  have h2 : i < 2 := by simpa [State.configured, State.conf, calm, cfg2] using h
  omega

/-- A connection STEADY, one MOVING with its pre-move value, one DARK; the currents placed, and ways below 4. -/
theorem witness_LocalVectorSumsPlacedCurrents :
    (∀ i q c, calm.placement i = some (q, c) → -1000 ≤ c ∧ c ≤ 1000) ∧ (∀ i, calm.configured i = true → calm.wayOf i < 4)
      ∧ calm.configured 1 = true ∧ calm.attrOf 1 ≠ .excluded ∧ (calm.conn 1).st = .steady ∧ calm.placement 1 = some (.A, 200)
      ∧ (let s := (moving false .gap).modHeld 0 fun h => { h with preMove := some 150 }
         (s.conn 0).st = .moving ∧ (s.conn 0).note = some ⟨false, .A, .B⟩ ∧ (s.held 0).preMove = some 150)
      ∧ ((dark0 calm).conn 0).st = .dark ∧ (calm.conn 2).st = .unconfigured := by
  refine ⟨?_, ?_, by decide +kernel⟩
  · intro i q c h
    have hi : calm.configured i = true := by
      cases hc : calm.configured i with
      | true => rfl
      | false => simp [State.placement, hc] at h
    have e : calm.placement i = some (.A, 200) := by
      rcases calm_configured i hi with rfl | rfl <;> decide +kernel
    rw [e] at h
    cases h
    decide
  · intro i hi
    rcases calm_configured i hi with rfl | rfl <;> decide +kernel

/-! ### Hypotheses met: chapters 2 and 4 -/

/-- A dwell run out, and a rescue's connection without one; a due member of the lowest index, and one behind a member that is not due. -/
theorem witness_DwellEndAndDueMember :
    (let s := conn0 (fun c => { c with st := .resting }) calm
     s.pins.pornLow = false ∧ (s.conn 0).st = .resting ∧ (s.conn 0).dwell = 0 ∧ (s.conn 0).unticked = false
       ∧ ((conn0 (fun c => { c with unticked := true }) s).conn 0).unticked = true)
      ∧ (let s := dark0 calm
         s.mode = .active ∧ s.engine.req = none ∧ (s.conn 0).member = some ⟨.recover, 0⟩)
      ∧ (let s := { calm with conns := [⟨.dark, none, 0, 0, false, some ⟨.recover, 1⟩, none, false⟩,
            ⟨.faulted, some .A, 0, 0, true, some ⟨.check, 0⟩, none, false⟩] }
         s.engine.req = none ∧ (s.conn 1).member = some ⟨.check, 0⟩
           ∧ ∀ j < 1, ((s.conn j).member.all fun x => decide (0 < x.retry)) = true) := by
  decide +kernel

/-- A plan move that passes and one of a FIXED target phase that does not; a rescue with a target, with none, and one that is over. -/
theorem witness_ArbiterTakesMoves :
    (let s := planning (executing ⟨0, .A, .B, 200⟩) calm
     s.mode = .active ∧ s.engine.req = none ∧ s.dueMember = none ∧ s.engine.rescue = [] ∧ s.planner.st = .executing
       ∧ s.planner.plan = some ⟨[⟨0, .A, .B, 200⟩], 1, [none], 0⟩
       ∧ s.arbitrate.engine.req = some (.move { move0 false .arming with cycles := 5 }))
      ∧ (let s := planning (executing ⟨0, .B, .C, 200⟩) calm
         (s.conn 0).cur ≠ some .B ∧ s.arbitrate.engine.req = none ∧ s.arbitrate.flagSet .planConcluded = true)
      ∧ (let lost := { calm with
            phases := calm.phases.set .A PhaseSup.initial, engine := ⟨none, [⟨0, 200, .A⟩], false, 0⟩ }
         lost.mode = .active ∧ lost.dueMember = none ∧ lost.attrOf 0 = .movable ∧ (lost.conn 0).st = .steady
           ∧ (lost.conn 0).cur = some .A ∧ lost.present .A = false
           ∧ lost.arbitrate.engine.req = some (.move ⟨true, 0, .A, .B, 200, 0, .arming, 5⟩)
           ∧ ({ lost with phases := Ph3.same PhaseSup.initial } : State).arbitrate.flagSet .rescueIncomplete = true)
      ∧ (let s := { calm with engine := ⟨none, [⟨0, 200, .A⟩], true, 0⟩ }
         s.present .A = true ∧ s.arbitrate.flagSet .rescueConcluded = true ∧ s.arbitrate.line.qLoad.isSome = true) := by
  decide +kernel

theorem witness_ReadyBeginsTheTransfer :
    let s := moving false .arming
    s.pins.pornLow = false ∧ s.engine.req = some (.move (move0 false .arming)) ∧ (move0 false .arming).step = .arming
      ∧ s.present (move0 false .arming).src = true := by decide +kernel

/-- Connections for which only some phases are allowed. -/
def allowing (a : PhaseSet) (s : State) : State := { s with cfg := some { cfg2 with conns := List.replicate 2 ⟨.movable, a, .A⟩ } }

/-- READY naming an allowed PRESENT path, an allowed LOST one, and one that is not allowed. -/
theorem witness_ArmAnswerConcludesRescue :
    let m := move0 true .arming
    let s := moving true .arming
    let lost := { s with phases := s.phases.set .C PhaseSup.initial }
    let barred := allowing ⟨true, true, false⟩ s
    (∀ t ∈ [s, lost, barred], t.pins.pornLow = false ∧ t.engine.req = some (.move m) ∧ t.mode = .active
        ∧ (t.conn m.conn).member = none ∧ t.nothingElse m.conn = true)
      ∧ m.step = .arming ∧ m.rescue = true ∧ m.cycles = 0 ∧ Phase.C ≠ m.src ∧ s.allows 0 .C = true ∧ lost.present .C = false
      ∧ lost.attrOf 0 = .movable ∧ barred.allows 0 .C = false
      ∧ after (.ready 0 (some .C) true) s (fun t => ((t.conn 0).st, (t.conn 0).cur, t.flags)) = some (.steady, some .C, 0)
      ∧ after (.ready 0 (some .C) true) lost (fun t => t.engine.req.isSome) = some true
      ∧ after (.ready 0 (some .C) true) barred (fun t => ((t.conn 0).st, t.flagSet .transferFailed)) = some (.faulted, true) := by
  decide +kernel

theorem witness_SkippedMoveConcludesThePlan :
    let m := move0 false .arming
    let s := { moving false .arming with planner := executing ⟨0, .A, .B, 200⟩ }
    s.pins.pornLow = false ∧ s.engine.req = some (.move m) ∧ m.step = .arming ∧ m.rescue = false ∧ m.pos = 0
      ∧ s.planner.st = .executing ∧ s.planner.plan = some ⟨[⟨0, .A, .B, 200⟩], 1, [none], 0⟩ ∧ s.mode = .active
      ∧ s.meas.fresh = true ∧ (s.conn m.conn).cur = some m.src ∧ s.present m.src = true ∧ s.dueMember = none
      ∧ s.engine.rescue = [] ∧ Phase.C ≠ m.src ∧ s.present .C = true ∧ (allowing ⟨true, true, false⟩ s).allows 0 .C = false := by
  decide +kernel

theorem witness_BreakIsAnswered :
    (let m := move0 false .breakSent
     let s := moving false .breakSent
     s.pins.pornLow = false ∧ s.engine.req = some (.move m) ∧ m.step = .breakSent ∧ s.present m.dst = true ∧ m.cycles = 0)
      ∧ (let m := move0 true .breakQuery
         let s := moving true .breakQuery
         s.pins.pornLow = false ∧ s.engine.req = some (.move m) ∧ m.step = .breakQuery ∧ s.mode = .active
           ∧ (s.conn m.conn).member = none ∧ s.nothingElse m.conn = true ∧ m.cycles = 0) := by decide +kernel

/-- The two other ways into FALLBACK: OPENED with the target LOST, and a QUERY that finds no path closed. -/
theorem witness_FallbackTargetIsChosen_at_break :
    (∀ rescue ∈ [false, true],
      let s := { moving rescue .breakSent with phases := calm.phases.set .B PhaseSup.initial }
      s.present .B = false ∧ s.engine.req = some (.move (move0 rescue .breakSent))
        ∧ after (.opened 0 true) s (fun t => (t.engine.req, (t.conn 0).cur))
            = some (some (.move { move0 rescue (.fbWait .A) with cycles := 2 }), none))
      ∧ after (.queryAnswer 0 none true) (moving true .breakQuery) (fun t => (t.engine.req, (t.conn 0).cur))
          = some (some (.move { move0 true (.fbWait .A) with cycles := 2 }), none) := by decide +kernel

/-- The three ways into FALLBACK from a crossing wait or a MAKE, with each of the two kinds of target. -/
theorem witness_FallbackTargetIsChosen :
    (∀ st ∈ [MoveStep.gap, MoveStep.making], ∀ rescue ∈ [false, true],
      let s := moving rescue st
      s.pins.pornLow = false ∧ s.engine.req = some (.move (move0 rescue st)) ∧ (move0 rescue st).cycles = 0
        ∧ s.present .A = true
        ∧ (Phase.all.find? fun x =>
            s.allows 0 x && s.present x && x != .B
              && decide (((wayVec s.meas.ways (s.wayOf 0)).get x + 200).natAbs ≤ s.rating (s.wayOf 0))) = some .A) := by
  decide +kernel

theorem witness_ClosedSettlesOrFails :
    (let s := moving true .making
     s.pins.pornLow = false ∧ s.engine.req = some (.move (move0 true .making)) ∧ s.meas.fresh = true ∧ Phase.C ≠ (move0 true .making).dst
       ∧ s.mode = .active ∧ (s.conn 0).member = none ∧ s.nothingElse 0 = true)
      ∧ (let s := moving true (.fbMake .C)
         s.engine.req = some (.move (move0 true (.fbMake .C))) ∧ s.mode = .active ∧ (s.conn 0).member = none
           ∧ s.nothingElse 0 = true) := by decide +kernel

/-- A rescue and a balancing move in SETTLING, the last of its plan and not the last. -/
theorem witness_SettlingConcludesDone :
    (calm.engine.req.all fun r => !r.settles) = true
      ∧ (∀ rescue ∈ [false, true],
          let s := planning (executing ⟨0, .A, .B, 200⟩) (conn0 (fun c => { c with cur := some .B }) (moving rescue .settling))
          s.engine.req = some (.move (move0 rescue .settling)) ∧ s.mode = .active ∧ (s.conn 0).cur = some .B
            ∧ s.planner.st = .executing ∧ s.planner.plan = some ⟨[⟨0, .A, .B, 200⟩], 1, [none], 0⟩
            ∧ (s.endSettling.flagSet .planConcluded, s.endSettling.flagSet .rescueConcluded, (s.endSettling.conn 0).st)
                = (true, rescue, .resting))
      ∧ (let s := planning { executing ⟨0, .A, .B, 200⟩ with
            plan := some ⟨[⟨0, .A, .B, 200⟩, ⟨1, .A, .C, 200⟩], 2, [none, none], 0⟩ }
            (conn0 (fun c => { c with cur := some .B }) (moving false .settling))
         (s.endSettling.planner.plan.map (·.results)) = some [some .done, none]
           ∧ s.endSettling.engine.req.isSome = true) := by decide +kernel

/-- The wait and the MAKE of FALLBACK, and the five ways into it with no phase that will do. -/
theorem witness_FailedFallbackLeavesDark :
    (∀ st ∈ [MoveStep.fbWait .C, MoveStep.fbMake .C],
      let s := moving true st
      s.pins.pornLow = false ∧ s.engine.req = some (.move (move0 true st)) ∧ (move0 true st).cycles = 0
        ∧ s.mode = .active ∧ (s.conn 0).member = none ∧ s.nothingElse 0 = true)
      ∧ ∀ x ∈ [(MoveStep.gap, Instr.gapLimit), (.making, .closedTimeout), (.making, .nak 0 true), (.breakSent, .opened 0 true),
            (.breakQuery, .queryAnswer 0 none true)],
          let s := allowing ⟨false, true, false⟩ { moving true x.1 with phases := calm.phases.set .B PhaseSup.initial }
          s.pins.pornLow = false ∧ s.engine.req = some (.move (move0 true x.1)) ∧ s.otherTarget (move0 true x.1) = none
            ∧ s.present .B = false ∧ s.mode = .active ∧ (s.conn 0).member = none ∧ s.nothingElse 0 = true
            ∧ after x.2 s (fun t => ((t.conn 0).st, t.planner.ownHold)) = some (.dark, 120) := by decide +kernel

/-- A query with another to come, and the last one. -/
theorem witness_InventoryQuerySetsItsRecord :
    ∀ i ∈ [0, 1],
      let s := busy (.inventory i 0) (conn0 (fun c => { c with st := .faulted, cur := none }) (inMode .inventory calm))
      s.pins.pornLow = false ∧ s.pins.resetnLow = false ∧ s.mode = .inventory ∧ s.engine.req = some (.inventory i 0)
        ∧ (s.conn i).member = none ∧ s.conf.count = 2
        ∧ after .queryTimeout s (fun t => (t.mode, t.station.listenOnly, t.flagSet .moduleSilent))
            = some (if i = 0 then (.inventory, none, true) else (.listenOnly, some 90, true)) := by decide +kernel

theorem witness_ReleaseCheckSetsItsRecord :
    ∀ m ∈ [Mode.active, Mode.listenOnly],
      let s := busy (.check 0 0)
        (conn0 (fun c => { c with st := .faulted, releasePending := true, member := some ⟨.check, 0⟩ }) (inMode m calm))
      s.pins.pornLow = false ∧ s.mode = m ∧ s.engine.req = some (.check 0 0) ∧ s.nothingElse 0 = true ∧ s.present .B = true
        ∧ (s.conn 0).st = .faulted := by decide +kernel

/-- The home phase PRESENT, and the home phase LOST; a path found, and one closed, where it should not be; no phase PRESENT that is
allowed. -/
theorem witness_RecoveryFindsOrClosesAPath :
    (let s := busy (.recovery 0 .query 5) (dark0 calm)
     s.pins.pornLow = false ∧ s.mode = .active ∧ s.engine.req = some (.recovery 0 .query 5) ∧ s.allows 0 .B = true
       ∧ s.present .B = true ∧ s.nothingElse 0 = true ∧ s.present (s.homeOf 0) = true ∧ s.homeOf 0 = .A)
      ∧ (let s := busy (.recovery 0 (.make .B) 3) (dark0 calm)
         s.engine.req = some (.recovery 0 (.make .B) 3) ∧ s.present .B = true ∧ s.nothingElse 0 = true)
      ∧ (let s := { busy (.recovery 0 .query 5) (dark0 calm) with
            phases := ⟨PhaseSup.initial, ⟨true, true, false, 0⟩, ⟨true, true, false, 0⟩⟩ }
         s.present (s.homeOf 0) = false ∧ (Phase.all.find? fun y => s.allows 0 y && s.present y) = some .B)
      ∧ (let s := allowing ⟨true, false, false⟩ (busy (.recovery 0 .query 5) (dark0 calm))
         s.nothingElse 0 = true ∧ s.allows 0 .B = false
           ∧ after (.queryAnswer 0 (some .B) true) s (fun t => ((t.conn 0).st, (t.conn 0).cur)) = some (.faulted, some .B))
      ∧ (let s := busy (.recovery 0 (.make .B) 3) (dark0 calm)
         s.nothingElse 0 = true ∧ Phase.C ≠ Phase.B
           ∧ after (.closed 0 .C true) s (fun t => ((t.conn 0).st, (t.conn 0).member)) = some (.faulted, none))
      ∧ (let s := allowing ⟨true, false, false⟩
            { busy (.recovery 0 .query 5) (dark0 calm) with phases := calm.phases.set .A PhaseSup.initial }
         s.nothingElse 0 = true ∧ s.present (s.homeOf 0) = false ∧ (Phase.all.all fun y => !s.allows 0 y || !s.present y) = true
           ∧ after (.queryAnswer 0 none true) s (fun t => ((t.conn 0).attempts, (t.conn 0).member)) = some (0, some ⟨.recover, 10⟩)) := by
  decide +kernel

/-- Each of the four failures, with the attempt that is left and the one that locks. -/
theorem witness_FailedRecoveryCountsItsAttempt :
    ∀ r ∈ [RecStep.query, RecStep.wait .B, RecStep.make .B], ∀ n ∈ [0, 1, 2],
      let s := busy (.recovery 0 r 0) (conn0 (fun c => { c with attempts := n }) (dark0 calm))
      s.pins.pornLow = false ∧ s.mode = .active ∧ s.engine.req = some (.recovery 0 r 0) ∧ s.nothingElse 0 = true
        ∧ (s.conn 0).st = .dark ∧ (s.conn 0).member = some ⟨.recover, 0⟩ ∧ (s.conn 0).attempts = n := by
  decide +kernel

theorem witness_UnaskedAnswersAreDiscarded :
    calm.engine.req.bind Req.outstanding = none
      ∧ (moving false .arming).engine.req.bind Req.outstanding = some (.arm 0)
      ∧ ¬(some (ModCmd.arm 0) = some (ModCmd.arm 1)) := by decide +kernel

/-! ### Hypotheses met: chapters 5 and 6 -/

/-- Both budget states; an allowance of 0 at the monitoring maximum and above it. The step's premises are met in witness_MonitoringHeld. -/
theorem witness_AllowanceLimitsBalancingStarts :
    calm.budget.throttled = false ∧ calm.allowance = 2
      ∧ (∀ n ∈ [1, 2], let s := { calm with budget := ⟨true, true, 13, 900, 3600, 300, n⟩ }
          s.budget.throttled = true ∧ s.conf.monMax = 1 ∧ s.allowance = 0) := by decide +kernel

/-- The access in a state, with a LOAD to send. -/
def toSend (a : Access) : State :=
  { calm with line := { calm.line with qLoad := some ⟨⟨400, 0, 0⟩, ⟨2, 0, 0⟩, false, 0, none, false, false⟩, access := a } }

/-- R103: the tick that brings a queued HOLD to 0 takes it off the queue, and with no other frame the access is IDLE. -/
theorem test_tick_removes_a_hold :
    let s (n : Nat) := tickDue
      { calm with line := { calm.line with qHold := some ⟨n, .service⟩, access := .defer 2 } }
    let look (t : State) := (t.line.qHold.map (·.dur), t.line.access)
    after .secondsTick (s 1) look = some (none, .idle) ∧ after .secondsTick (s 2) look = some (some 1, .defer 2) := by decide +kernel

/-- R104, R105: the second cycle event completes a gap and does not count down the kept count; the event that brings a count to 0 starts
the head frame; the carrier finds what the cycle event has left. -/
theorem test_cycle_events_drive_the_access :
    let look (a : Access) := after (.crossing .A .negative) (toSend a) (·.line.access)
    look (.frozen 1 (some 1)) = some (.defer 1) ∧ look (.frozen 1 (some 0)) = some (.frozen 1 (some 1))
      ∧ look (.gap (some 0)) = some (.gap (some 1)) ∧ look (.defer 1) = some .sending ∧ look (.defer 2) = some (.defer 1) := by
  decide +kernel

/-- The carrier's rise and fall; a complete gap, one short of its second cycle with and without cycle events, and a frozen count. -/
theorem witness_CarrierAndGapMoveTheAccess :
    calm.pins.pornLow = false ∧ calm.pins.lcd = false ∧ (calm.setLcd true).pins.lcd = true
      ∧ (toSend (.gap (some 2))).pins.pornLow = false ∧ (toSend (.gap (some 2))).line.access = .gap (some 2)
      ∧ (toSend (.gap (some 2))).line.head = some .load
      ∧ (toSend (.frozen 4 (some 2))).line.access = .frozen 4 (some 2)
      ∧ (toSend (.gap (some 1))).line.access = .gap (some 1) ∧ (toSend (.frozen 4 (some 0))).line.access = .frozen 4 (some 0)
      ∧ (calm.time.aligned = true ∧ calm.time.ref ≠ none) ∧ (reading.time.aligned = false ∧ reading.pins.pornLow = false) := by
  decide +kernel

/-- A queue of each head, and of none, at the end of its deferral; a deferral short of it; a HOLD. -/
theorem witness_DeferralEndSendsTheHeadFrame :
    let s := toSend (.defer 0)
    let outcome (v : Option Vec) : State := { s with line := { s.line with qOutcome := some ⟨5, true, [.done], v⟩ } }
    let intent : State := { s with line := { s.line with qIntent := some ⟨5, 20, [⟨.A, .B, 200⟩]⟩ } }
    let hold : State := { intent with line := { intent.line with qHold := some ⟨1, .service⟩ } }
    s.pins.pornLow = false ∧ s.line.access = .defer 0 ∧ hold.line.head = some .hold
      ∧ (outcome (some ⟨400, 0, 0⟩)).line.head = some .outcome ∧ (outcome none).line.head = some .load
      ∧ intent.line.head = some .intent ∧ s.line.qHold = none ∧ s.line.qOutcome = none ∧ s.line.qIntent = none
      ∧ s.line.head = some .load ∧ calm.line.head = none ∧ (toSend (.defer 1)).line.access = .defer 1 := by decide +kernel

theorem witness_TransmissionCompleteFreesTheLine :
    (let s := { toSend .sending with line := { (toSend .sending).line with tx := some (.hold ⟨1, .service⟩) } }
     s.pins.pornLow = false ∧ s.line.access = .sending ∧ s.line.tx = some (.hold ⟨1, .service⟩))
      ∧ (let s := { calm with
            line := { calm.line with access := .sending, tx := some (.intent ⟨5, 20, [⟨.A, .B, 200⟩]⟩) }
            planner := { executing ⟨0, .A, .B, 200⟩ with st := .announcing } }
         s.line.access = .sending ∧ s.line.tx = some (.intent ⟨5, 20, [⟨.A, .B, 200⟩]⟩) ∧ s.planner.st = .announcing
           ∧ s.planner.intentNo = 5 ∧ s.planner.noted = []) := by decide +kernel

/-- A frame of each kind at the ends of its ranges. -/
theorem witness_LegalFrameValidates :
    (Frame.load ⟨⟨32000, -32000, 0⟩, ⟨32, 0, 0⟩, true, 3, some 255, true, true⟩).legal = true
      ∧ (Frame.intent ⟨0, 60, [⟨.A, .B, 1000⟩, ⟨.C, .A, -1000⟩, ⟨.B, .C, 0⟩]⟩).legal = true
      ∧ (Frame.outcome ⟨9, false, [.skipped], ⟨0, 0, 0⟩⟩).legal = true ∧ (Frame.hold ⟨600, .comparator⟩).legal = true
      ∧ (Frame.hold ⟨1, .darkConnection⟩).legal = true ∧ (0x1234#16) ≠ 0x1235#16 := by decide +kernel

/-! ### Hypotheses met: chapter 7 -/

theorem witness_KnownPeerFrameIsStored :
    let s := hearing onePeer
    s.pins.pornLow = false ∧ s.frameArriving = true ∧ 9 ≠ s.conf.address ∧ s.slotOf 9 = some 0 ∧ s.slot 0 = some (peer 9)
      ∧ s.planner.st = .idle ∧ s.planner.prec = []
      ∧ ∀ f ∈ [Frame.load load9, .intent ⟨5, 20, [⟨.A, .B, 200⟩]⟩, .outcome ⟨4, true, [.done], ⟨0, 0, 0⟩⟩, .hold ⟨30, .comparator⟩],
          validateFrame s.conf.feeder (frameBytes 0x1234 9 f) = some (9, f) := by decide +kernel

/-- An empty slot, a STALE entry to replace, a table full of FRESH entries, a frame cut short, and one from the own address. -/
theorem witness_UnknownPeersClashesAndBadFrames :
    let bytes := frameBytes 0x1234 9 (.load load9)
    (let s := hearing (some (peer 10) :: List.replicate 15 none)
     s.pins.pornLow = false ∧ s.frameArriving = true ∧ 9 ≠ s.conf.address ∧ s.slotOf 9 = none
       ∧ validateFrame s.conf.feeder bytes = some (9, .load load9) ∧ s.planner.st = .idle ∧ s.planner.prec = []
       ∧ s.nbrs[1]? = some none ∧ ∀ j < 1, s.nbrs[j]? ≠ some none)
      ∧ (let s := hearing ((List.range 16).map fun k =>
            some (if k = 3 ∨ k = 5 then { (peer (10 + k)).staled with age := 120 } else peer (10 + k)))
         s.slotOf 9 = none ∧ (∀ x ∈ s.nbrs, x ≠ none) ∧ s.nbrs[3]? = some (some { (peer 13).staled with age := 120 })
           ∧ after (.loadFrame bytes) s (fun t => ((t.slot 3).map (·.addr), (t.slot 5).map (·.addr))) = some (some 9, some 15))
      ∧ (let s := hearing ((List.range 16).map fun k => some (peer (10 + k)))
         s.frameArriving = true ∧ s.slotOf 9 = none ∧ ∀ x ∈ s.nbrs, (x.any fun e => e.fresh) = true)
      ∧ (let s := hearing onePeer
         validateFrame s.conf.feeder (bytes.take 17) = none
           ∧ validateFrame s.conf.feeder (frameBytes 0x1234 7 (.load load9)) = some (s.conf.address, .load load9)) := by
  decide +kernel

/-- Remainings of 0, and above 0; ages at the stale age, 90 s, and at the forget age, 300 s; a lifetime and a hold run out. -/
theorem witness_RowsTakeEndsTheTickLeft :
    (let s := { calm with budget := ⟨true, true, 13, 0, 0, 0, 1⟩ }
     s.pins.pornLow = false ∧ s.budget.running = true ∧ s.budget.sampLeft = 0 ∧ s.budget.throttled = true
       ∧ s.budget.monLeft = 0 ∧ s.budget.throttleLeft = 0)
      ∧ calm.pins.pornLow = false ∧ calm.budget.sampLeft = 900 ∧ calm.budget.throttled = false
      ∧ (let s := { calm with nbrs := some { peer 9 with
          age := 90, intent := some ⟨4, [⟨.A, .B, 50⟩], 0⟩, hold := some ⟨0, .service⟩ } :: List.replicate 15 none }
         let t := { calm with nbrs := List.replicate 15 none ++ [some { (peer 9).staled with age := 300 }] }
         s.pins.pornLow = false ∧ (s.slot 0).isSome = true ∧ s.planner.st ≠ .held ∧ 3 * s.conf.report = 90
           ∧ 10 * s.conf.report = 300 ∧ ((s.slot 0).map (·.age)) = some 90 ∧ ((t.slot 15).map (·.age)) = some 300) := by
  decide +kernel

/-! ### Hypotheses met: chapters 3 and 8 -/

theorem witness_NeutralEstimateIsExactRootDown :
    within 65535 65535 = true ∧ within 65535 (-65535) = true ∧ within 65535 65536 = false := by decide +kernel

/-- R37 to R39: a peer counted, one marked measurement-stale and one STALE left out; of a peer's two moves the one not concluded, and the moves of one
without a vector. -/
theorem test_views :
    let two := { peer 9 with intent := some ⟨4, [⟨.A, .B, 50⟩, ⟨.B, .C, 7⟩], 9⟩, concluded := 1 }
    let marked := { peer 10 with info := some ⟨⟨1, 0, 0⟩, true, false, false⟩ }
    let peers := [some two, some marked, some (peer 11).staled, some { peer 12 with vec := none, info := none }]
    let s := { calm with nbrs := peers ++ List.replicate 12 none }
    s.feederView = ⟨500, 0, 0⟩ ∧ s.projectedView = ⟨450, 43, 7⟩ := by decide +kernel

theorem witness_PlanMovesAreDistinctCandidates :
    (⟨12, .A, .B, 150⟩ : Move) ∈ worked.buildPlan ∧ worked.buildPlan[1]? = some ⟨12, .A, .B, 150⟩
      ∧ worked.wayOf 12 < worked.meas.ways.length ∧ worked.wayOf 7 = worked.wayOf 12 := by decide +kernel

theorem witness_StepSelectsTheBestGain :
    worked.buildPlan = ⟨7, .A, .C, 320⟩ :: [⟨12, .A, .B, 150⟩]
      ∧ (worked.bestCandidate worked.projectedView worked.meas.ways []).map (fun x => (x.move, x.gain))
          = some (⟨7, .A, .C, 320⟩, 511)
      ∧ (worked.bestCandidate worked.projectedView worked.meas.ways worked.buildPlan).isNone = true ∧ Phase.A ≠ Phase.C := by
  decide +kernel

/-- A plan to announce, and none while held. -/
theorem witness_EvaluationExpiryAnnouncesThePlan :
    (let s := { calm with planner := { calm.planner with evalT := some 0 } }
     s.pins.pornLow = false ∧ s.planner.evalT = some 0 ∧ s.mode = .active ∧ s.planner.st = .idle ∧ s.isHeld = false
       ∧ s.meas.fresh = true ∧ s.buildPlan ≠ [])
      ∧ (let s := { calm with planner := { calm.planner with evalT := some 0, ownHold := 1 } }
         s.planner.evalT = some 0 ∧ s.isHeld = true) := by decide +kernel

theorem witness_ReportAndAnnounceExpiries :
    (let s := { calm with planner := { calm.planner with reportT := some 0 } }
     s.pins.pornLow = false ∧ s.mode = .active ∧ s.planner.reportT = some 0)
      ∧ (let p := { executing ⟨0, .A, .B, 200⟩ with st := .announcing, announceT := some 0 }
         let b : IntentBody := ⟨5, 20, [⟨.A, .B, 200⟩]⟩
         let s := { calm with planner := p, line := { calm.line with qIntent := some b } }
         let t := { calm with planner := p, line := { calm.line with access := .sending, tx := some (.intent b) } }
         s.planner.st = .announcing ∧ s.planner.announceT = some 0 ∧ s.line.qIntent ≠ none ∧ t.line.qIntent = none
           ∧ t.line.tx = some (.intent b)) := by decide +kernel

/-- A plan that stands, a plan of no candidate, peers in precedence, and a lifetime run out. -/
theorem witness_ListenAndLifetimeEnds :
    let waiting (m : Move) (l : List PrecPair) : State :=
      { calm with planner := { executing m with st := .awaiting, listenT := some 0, prec := l } }
    (∀ s ∈ [waiting ⟨0, .A, .B, 200⟩ [], waiting ⟨1, .A, .A, 200⟩ [], waiting ⟨0, .A, .B, 200⟩ [⟨9, 4⟩]],
       s.pins.pornLow = false ∧ s.mode = .active ∧ s.planner.st = .awaiting ∧ s.planner.listenT = some 0
         ∧ s.planner.plan.isSome = true)
      ∧ (worked.recheckCount worked.buildPlan = 2 ∧ worked.buildPlan.length = 2
          ∧ worked.recheckCount (worked.buildPlan ++ [⟨0, .A, .B, 1⟩]) = 2 ∧ 0 < worked.meas.ways.length)
      ∧ (waiting ⟨0, .A, .B, 200⟩ []).recheckCount [⟨0, .A, .B, 200⟩] = 1
      ∧ (waiting ⟨1, .A, .A, 200⟩ []).recheckCount [⟨1, .A, .A, 200⟩] = 0
      ∧ (let s := { calm with planner := { executing ⟨0, .A, .B, 200⟩ with st := .held, lifetimeT := some 0 } }
         s.mode = .active ∧ s.planner.st = .held ∧ s.planner.lifetimeT = some 0 ∧ s.planner.plan.isSome = true) := by
  decide +kernel

/-- The planner in a state, with the one-move plan of connection 0 and its INTENT queued or on its way. -/
def planState (st : PlState) (queued sent : Bool) : State :=
  let b : IntentBody := ⟨5, 20, [⟨.A, .B, 200⟩]⟩
  { calm with
    planner := { executing ⟨0, .A, .B, 200⟩ with st := st }
    line := { calm.line with
      qIntent := if queued then some b else none
      tx := if sent then some (.intent b) else none
      access := if sent then .sending else .idle } }

/-- Each state of the planner and each event; a frame of each kind that hands one. -/
theorem witness_PlannerTakesEventsByItsState :
    (∀ st ∈ [PlState.announcing, .awaiting, .held, .executing],
       (planState st false false).mode = .active ∧ (planState st false false).planner.st = st
         ∧ (planState st false false).planner.plan = some ⟨[⟨0, .A, .B, 200⟩], 1, [none], 0⟩)
      ∧ calm.planner.st = .idle ∧ (planState .announcing true false).line.qIntent ≠ none
      ∧ (planState .announcing false true).line.qIntent = none
      ∧ (planState .announcing false true).line.tx = some (.intent ⟨5, 20, [⟨.A, .B, 200⟩]⟩)
      ∧ (planState .announcing true false).meas.fresh = true ∧ (planState .announcing true false).buildPlan ≠ []
      ∧ (planState .executing false false).engine.req = none
      ∧ (busy (.move (move0 true .gap)) (planState .executing false false)).engine.req = some (.move (move0 true .gap))
      ∧ (planning (executing ⟨0, .A, .B, 200⟩) (moving false .gap)).engine.req = some (.move (move0 false .gap))
      ∧ (let e := { peer 9 with intent := none, hold := none }
         let s := { hearing (some e :: List.replicate 15 none) with
           planner := { executing ⟨0, .A, .B, 200⟩ with st := .held, prec := [⟨9, 4⟩] } }
         s.pins.pornLow = false ∧ s.mode = .active ∧ s.frameArriving = true ∧ 9 ≠ s.conf.address ∧ s.slotOf 9 = some 0
           ∧ s.slot 0 = some e ∧ s.isHeld = false ∧ s.planner.st = .held ∧ s.planner.prec = [⟨9, 4⟩]
           ∧ ∀ f ∈ [Frame.intent ⟨5, 20, [⟨.A, .B, 200⟩]⟩, .outcome ⟨4, true, [.done], ⟨0, 0, 0⟩⟩, .hold ⟨30, .comparator⟩],
               validateFrame s.conf.feeder (frameBytes 0x1234 9 f) = some (9, f)) := by decide +kernel

/-- With phases PRESENT, and with none. -/
theorem witness_ListenOnlyEndsInActiveOrBlackout :
    let s := { inMode .listenOnly calm with station := { calm.station with mode := .listenOnly, listenOnly := some 0 } }
    let t := { s with phases := Ph3.same PhaseSup.initial }
    s.pins.pornLow = false ∧ s.mode = .listenOnly ∧ s.station.listenOnly = some 0 ∧ s.engine.req = none ∧ s.dueMember = none
      ∧ s.engine.rescue = [] ∧ s.planner.st = .idle ∧ s.present .A = true ∧ t.present .A = false ∧ t.present .B = false
      ∧ t.present .C = false := by decide +kernel

/-! ### Hypotheses met: chapters 9 and 11 -/

/-- The station with comparators 0 and 1 enabled, both true at the next record. -/
def watching (a : Action) (s : State) : State :=
  let d : CompDef := ⟨true, .feederNeutral, .atOrAbove, 400, a⟩
  { s with cfg := some { cfg2 with comps := [d, d, { d with enable := false }, { d with enable := false }] } }

/-- The last comparator, with FLAG in ACTIVE and with HOLD in another mode; EVALUATE and HOLD in ACTIVE; ALERT's three kinds of mode. -/
theorem witness_ComparatorFiresAndAlertFollows :
    (let d : CompDef := ⟨true, .feederNeutral, .atOrAbove, 400, .flag⟩
     let s := { calm with cfg := some { cfg2 with comps := [d, d, d, d] } }
     s.conf.comps[3]? = some d ∧ d.action = .flag ∧ (s.compare false 3).flagSet .comparator3 = true)
      ∧ (let d : CompDef := ⟨true, .localPhase .B, .below, 0, .hold⟩
         let s := { inMode .blackout calm with cfg := some { cfg2 with comps := [d, d, d, d] } }
         s.conf.comps[0]? = some d ∧ s.mode ≠ .active)
      ∧ (watching .hold calm).conf.comps[0]? = some ⟨true, .feederNeutral, .atOrAbove, 400, .hold⟩
      ∧ ((watching .hold calm).compare false 0).isHeld = true
      ∧ (watching .evaluate calm).evaluatesAt 0 = true
      ∧ ((watching .evaluate calm).compare false 0).planner.st = .announcing
      ∧ reading.mode = .loading ∧ (inMode .configFault reading).mode = .configFault ∧ calm.mode.working = true := by
  decide +kernel

/-- R153: of two firings of EVALUATE at one record the first takes the evaluation, and the timer is drawn once, though no plan came
of it. -/
theorem test_one_evaluation_a_record :
    let s := watching .evaluate (calm.modHeld 0 fun h => { h with unmeasured := true })
    let t := (s.modHeld 1 fun h => { h with unmeasured := true }).compareAll
    t.planner.st = .idle ∧ t.draws = calm.draws + 1 ∧ t.flagSet .comparator0 = true ∧ t.flagSet .comparator1 = true := by
  decide +kernel

/-- The last index and the last slot; an empty slot and one that holds an entry. -/
theorem witness_ReadRequestsShowTheState :
    let s := { calm with nbrs := List.replicate 15 none ++ [some (peer 9)] }
    s.pins.pornLow = false ∧ s.svc.rx = .idle ∧ s.mode.working = true ∧ (31#8).toNat < 32 ∧ (15#8).toNat < 16
      ∧ s.slot (0#8).toNat = none ∧ s.slot (15#8).toNat = some (peer 9) ∧ (peer 9).vec.isSome = (peer 9).info.isSome := by
  decide +kernel

/-- Nineteen codes, and a code that names no flag. -/
theorem witness_EventRequestsClearFlags :
    calm.pins.pornLow = false ∧ calm.svc.rx = .idle ∧ calm.mode.working = true
      ∧ (let codes : List Byte := (List.range 19).map fun n => BitVec.ofNat 8 n
         codes.length ≤ 19 ∧ ∀ b ∈ codes, b.toNat < 19)
      ∧ ¬(∀ b ∈ [18#8, 19#8], b.toNat < 19) := by decide +kernel

/-- Each branch: an index above 31, INVENTORY, not configured, FAULTED, DARK_LOCKED, and another state. -/
theorem witness_ReleaseJoinsTheRecoverySet :
    calm.pins.pornLow = false ∧ calm.svc.rx = .idle ∧ calm.mode.working = true ∧ 31 < (32#8).toNat ∧ ¬31 < (31#8).toNat
      ∧ (inMode .inventory calm).mode = .inventory ∧ calm.configured (2#8).toNat = false ∧ calm.configured (1#8).toNat = true
      ∧ ((conn0 (fun c => { c with st := .faulted }) calm).conn 0).st = .faulted
      ∧ ((conn0 (fun c => { c with st := .darkLocked, attempts := 3 }) calm).conn 0).st = .darkLocked
      ∧ (calm.conn 0).st = .steady := by decide +kernel

/-- An OVERRIDE of each fate; a HOLD at the ends of the range and beside them. -/
theorem witness_OverrideLockAndHoldRequests :
    calm.pins.pornLow = false ∧ calm.svc.rx = .idle ∧ calm.mode.working = true ∧ (1#8).toNat < 32
      ∧ codeAttr 2 = some .excluded ∧ calm.station.overridesOpen = false ∧ calm.configured 1 = true
      ∧ (calm.conn 1).st ≠ .moving ∧ ((moving false .gap).conn 0).st = .moving ∧ calm.planner.st = .idle
      ∧ (bytesWord 0 9).toNat = 9 ∧ (bytesWord 0 10).toNat = 10 ∧ (bytesWord 2 0x58).toNat = 600
      ∧ (bytesWord 2 0x59).toNat = 601 := by decide +kernel

/-- A request refused, a mode that does not work, and the kind bytes beside the eleven. -/
theorem witness_RefusedRequestsChangeNothing :
    (decideKind 6 [2] calm).1 = .notApplicable ∧ (∀ data, (decideKind 6 [2] calm).1 ≠ .ok data) ∧ reading.mode.working = false
      ∧ (6#8) ≠ 1 ∧ (6#8) ≠ 11 ∧ calm.pins.pornLow = false ∧ calm.svc.rx = .idle ∧ ([] : List Byte).length ≤ 19
      ∧ (0#8).toNat = 0 ∧ 11 < (12#8).toNat := by
  have h : (decideKind 6 [2] calm).1 = .notApplicable := by decide +kernel
  refine ⟨h, ?_, by decide +kernel⟩
  intro data
  rw [h]
  exact fun e => nomatch e

/-- A frame cut short, one of a bad check value, one of a length byte of 20 with a start byte behind it; each receive state. -/
theorem witness_ReceiveStateFollowsTheFrames :
    calm.pins.pornLow = false ∧ calm.svc.rx = .idle ∧ (0x13#8).toNat ≤ 19 ∧ 19 < (0x14#8).toNat
      ∧ serviceFrame? [1, 6, 0, 0, 0] = none ∧ [6, 0, 0, 0].length = (1#8).toNat + 3 ∧ (0x7E#8) ∉ [(1#8), 2]
      ∧ (calm.setRx .responding).svc.rx = .responding ∧ (calm.setRx .discarding).svc.rx = .discarding
      ∧ (List.replicate 19 (0#8)).length ≤ 19 := by decide +kernel

/-- R189: a start byte behind a length byte of 20 begins another frame, and a STATUS in it is answered. -/
theorem test_start_byte_after_a_bad_length :
    let frame := [0x7E, 0, 1] ++ wordBytes (crc16 [0, 1])
    after (.malformedFrame (20 :: frame)) calm (fun t => (t.svc.rx, t.out.length)) = some (.responding, 1)
      ∧ after (.malformedFrame [20, 0x7E]) calm (fun t => t.svc.rx) = some .receiving := by decide +kernel

/-- R177: a start byte begins a frame, and too long a gap abandons it. -/
theorem test_start_byte_then_gap :
    after .overrun calm (·.svc.rx) = some .receiving
      ∧ after .serviceByteGap (calm.setRx .receiving) (·.svc.rx) = some .idle := by decide +kernel

/-! ### Hypotheses met: the invariants -/

/-- A move in GAP, its path open. -/
def inGap : State := conn0 (fun c => { c with cur := none }) (moving true .gap)

theorem conn_cases (P : Nat → Prop) (h : ∀ i < 32, P i) (hd : ∀ i, 32 ≤ i → P i) (i : Nat) : P i := by
  rcases Nat.lt_or_ge i 32 with hi | hi
  · exact h i hi
  · exact hd i hi

theorem conn_beyond (s : State) (hl : s.conns.length = 32) (i : Nat) (hi : 32 ≤ i) : s.conn i = Conn.unconfigured := by
  simp [State.conn, List.getElem?_eq_none (hl ▸ hi)]

/-- A connection MOVING is that of the move in flight. -/
def movingBy (s : State) (i : Nat) : Bool :=
  (s.conn i).st != .moving || s.engine.req.any fun r =>
    match r with
    | .move m => m.conn == i
    | .recovery _ _ _ | .check _ _ | .inventory _ _ => false

/-- A working state of the small station, but for INVENTORY, is sound when its 32 records and its request are. -/
theorem sound_of_checks (s : State) (e : s.cfg = some cfg2) (hw : s.mode.working = true) (hi : s.mode ≠ .inventory)
    (hl : s.conns.length = 32) (hc : ∀ i < 32, (s.conn i).sound (s.configured i) (s.allows i) = true)
    (hm : ∀ i < 32, movingBy s i = true) (hr : s.reqSound s.engine.req = true) : s.Sound := by
  have hb : ∀ i, 32 ≤ i → s.configured i = false := by
    intro i hi
    simp [State.configured, State.conf, e, cfg2]
    omega
  refine ⟨⟨by rw [e, hw]; rfl, ?_⟩, hl, ?_, ?_, hr, fun h => absurd h hi⟩
  · intro c hc
    rw [e] at hc
    cases hc
    exact ⟨by decide, by decide, by decide +kernel, by decide +kernel, 2, 2, 2, rfl, by decide, by decide, by decide⟩
  · refine conn_cases _ hc ?_
    intro i hi
    rw [conn_beyond _ hl i hi, hb i hi]
    rfl
  · refine conn_cases _ ?_ ?_
    · intro i hi h
      have := hm i hi
      simp only [movingBy, h] at this
      cases hq : s.engine.req with
      | none => simp [hq] at this
      | some r => cases r <;> simp_all
    · intro i hi h
      rw [conn_beyond _ hl i hi] at h
      cases h

theorem inGap_sound : inGap.Sound :=
  sound_of_checks _ rfl rfl (by decide +kernel) (by decide +kernel) (by decide +kernel) (by decide +kernel) (by decide +kernel)

/-- A crossing of the target sends MAKE. -/
theorem witness_MakeOnlyOnAllowedOpenConnection :
    inGap.Sound ∧ after (.crossing .B .positive) inGap (fun t => t.out.take 1) = some [.command (.make 0 .B)] :=
  ⟨inGap_sound, by decide +kernel⟩

theorem witness_StepKeepsRecordsSound :
    inGap.Sound ∧ ∃ t, step { inGap with pending := [.crossing .B .positive] } = .next t := ⟨inGap_sound, _, rfl⟩

theorem witness_StepKeepsCalmOutsideActive :
    (inMode .blackout calm).mode ≠ .active ∧ (inMode .blackout calm).Sound ∧ (inMode .blackout calm).CalmOutsideActive
      ∧ ∃ t, step { inMode .blackout calm with pending := [.secondsTick] } = .next t :=
  ⟨by decide +kernel,
    sound_of_checks _ rfl rfl (by decide +kernel) (by decide +kernel) (by decide +kernel) (by decide +kernel) (by decide +kernel),
    fun _ => by decide +kernel, _, rfl⟩

/-- A table with a FRESH entry and a STALE one. -/
def twoPeers : State := { calm with nbrs := some (peer 9) :: some (peer 10).staled :: List.replicate 14 none }

theorem twoPeers_slot (k : Nat) : twoPeers.slot k = if k = 0 then some (peer 9) else if k = 1 then some (peer 10).staled else none := by
  match k with
  | 0 => rfl
  | 1 => rfl
  | n + 2 =>
    simp only [State.slot, twoPeers, List.getD_cons_succ]
    rw [List.getD_eq_getElem?_getD, List.getElem?_replicate]
    split <;> simp

theorem witness_StepKeepsNeighbourTableSound :
    twoPeers.TableSound ∧ ∃ t, step { twoPeers with pending := [.staleAge 0] } = .next t := by
  refine ⟨⟨by decide +kernel, ?_, ?_, ?_, by decide +kernel⟩, _, rfl⟩
  · intro j k a hj hk
    simp only [State.addrAt, twoPeers_slot] at hj hk
    split at hj <;> split at hk <;> simp_all [peer, Entry.staled]
    all_goals omega
  · intro k a hk
    refine ⟨by decide +kernel, ?_⟩
    have e : twoPeers.conf.address = 7 := rfl
    rw [e]
    simp only [State.addrAt, twoPeers_slot] at hk
    split at hk
    · simp [peer] at hk
      omega
    · split at hk
      · simp [peer, Entry.staled] at hk
        omega
      · cases hk
  · intro k e hk
    have h30 : twoPeers.conf.report = 30 := rfl
    rw [twoPeers_slot] at hk
    split at hk
    · cases hk
      simp [State.entrySound, State.forgetAfter, State.staleAfter, h30, peer]
    · split at hk
      · cases hk
        simp [State.entrySound, State.forgetAfter, State.staleAfter, h30, peer, Entry.staled]
      · cases hk

theorem witness_StepKeepsPhasesSound : calm.PhasesSound ∧ ∃ t, step { calm with pending := [.crossing .A .negative] } = .next t := by
  refine ⟨⟨by decide +kernel, fun _ => by decide +kernel, fun h => absurd h (by decide +kernel), ?_⟩, _, rfl⟩
  intro p
  cases p <;> decide +kernel

/-- THROTTLED with room for the balancing move whose READY is awaited. -/
theorem witness_MonitoringHeld :
    let s := { moving false .arming with budget := ⟨true, true, 13, 900, 3600, 300, 0⟩ }
    s.budget.throttled = true ∧ s.Sound ∧ s.MonitoringHeld ∧ ∃ t, step { s with pending := [.ready 0 (some .A) true] } = .next t :=
  ⟨rfl,
    sound_of_checks _ rfl rfl (by decide +kernel) (by decide +kernel) (by decide +kernel) (by decide +kernel) (by decide +kernel),
    ⟨fun h => absurd h (by decide +kernel), fun _ => ⟨by decide +kernel, fun _ _ _ _ => by decide +kernel⟩⟩, _, rfl⟩

/-- Every end one tick or one cycle away: a deferral at 1, a HOLD of 1 s, windows and a throttle period of 1 s, a dwell of 1 s. -/
theorem witness_StepLeavesNoEndUntaken :
    let s := tickDue (conn0 (fun c => { c with st := .resting, dwell := 1 })
      { calm with
        line := { calm.line with qHold := some ⟨1, .service⟩, access := .defer 1 }
        budget := ⟨true, true, 13, 1, 1, 1, 1⟩ })
    s.EndsTaken ∧ ∃ t, step { s with pending := [.secondsTick] } = .next t :=
  ⟨⟨Nat.le_refl 1, fun h hh => by cases hh; exact Nat.le_refl 1, fun _ => Nat.le_refl 1, fun _ => ⟨Nat.le_refl 1, Nat.le_refl 1⟩,
    by decide +kernel, by decide +kernel, by decide +kernel, by decide +kernel, by decide +kernel⟩, _, rfl⟩

end Sys2Proof.Tests
end

/-! A service RELEASE from its row to its answer: how a request row reaches its decision (R177, R179), what RELEASE decides in
each state of a connection (R34, R35, R183), and the statement assembled from the two. -/

namespace Sys2Proof.Machine

/-! ### A request row that is taken (R164, R177) -/

/-- With PORN high an event has its effect. -/
theorem powered_of_high (f : State → State) {s : State} (hp : s.pins.pornLow = false) : powered f s = f s := by
  simp [powered, hp]

/-- A request that fits in a frame is decided and answered in IDLE and in RECEIVING. -/
theorem takeRequest_eq_respond (k : Byte) {p : List Byte} (d : List Byte → State → Decision) {s : State}
    (hl : p.length ≤ 19) (hr : s.svc.rx = .idle ∨ s.svc.rx = .receiving) :
    s.takeRequest k p d = State.respond k (d p s) := by
  unfold State.takeRequest
  rw [if_neg (Nat.not_lt.mpr hl)]
  rcases hr with hr | hr <;> rw [hr]

theorem unlocked_of_working (d : State → Decision) {s : State} (hw : s.mode.working = true) : unlocked d s = d s :=
  if_pos hw

theorem exec_release_eq_respond {p : List Byte} {s : State} (hp : s.pins.pornLow = false)
    (hr : s.svc.rx = .idle ∨ s.svc.rx = .receiving) (hl : p.length ≤ 19) :
    exec (.release p) s = .next (State.respond 6 (decideRelease p s)) := by
  have harm : exec (.release p) s = .next (powered (State.takeRequest 6 p decideRelease) s) := rfl
  rw [harm, powered_of_high _ hp, takeRequest_eq_respond 6 decideRelease hl hr]

/-! ### What RELEASE decides (R34, R35, R183) -/

section
variable {s : State} {i : Byte} (hw : s.mode.working = true)
include hw

theorem decideRelease_index_above (hi : 31 < i.toNat) : decideRelease [i] s = (.badRequest, s) := by
  unfold decideRelease
  rw [unlocked_of_working _ hw]
  exact if_neg (by omega)

theorem decideRelease_not_released (hi : i.toNat ≤ 31) (h : s.mode = .inventory ∨ s.configured i.toNat = false) :
    decideRelease [i] s = (.notApplicable, s) := by
  have hc : (s.mode == .inventory || !s.configured i.toNat) = true := by simpa using h
  unfold decideRelease
  rw [unlocked_of_working _ hw]
  exact (if_pos (by omega)).trans (if_pos hc)

theorem decideRelease_released (hi : i.toNat ≤ 31) (h : ¬(s.mode = .inventory ∨ s.configured i.toNat = false)) :
    decideRelease [i] s = s.release i.toNat := by
  have hc : ¬(s.mode == .inventory || !s.configured i.toNat) = true := by simpa using h
  unfold decideRelease
  rw [unlocked_of_working _ hw]
  exact (if_pos (by omega)).trans (if_neg hc)

end

/-- Joining the recovery set changes the membership alone (R29). -/
theorem Conn.joinSet_eq (kind : RecKind) (retry : Nat) (c : Conn) :
    Conn.joinSet kind retry c
      = { c with member := if c.member.map (·.kind) = some kind then c.member else some ⟨kind, retry⟩ } := by
  unfold Conn.joinSet
  split <;> rfl

section
variable {s : State} {i : Nat}

/-- A release already pending is not asked for twice (R34). -/
theorem release_faulted_pending (hf : (s.conn i).st = .faulted) (hr : (s.conn i).releasePending = true) :
    s.release i = (.ok [], s) := by
  simp [State.release, hf, hr]

theorem release_faulted (hf : (s.conn i).st = .faulted) (hr : ¬(s.conn i).releasePending = true) :
    s.release i = (.ok [], State.arbitrate { s with conns := s.conns.modify i fun c =>
      { c with
        releasePending := true
        member := if c.member.map (·.kind) = some .check then c.member else some ⟨.check, 0⟩ } }) := by
  simp [State.release, hf, hr, State.modConn, Conn.joinSet_eq]

theorem release_darkLocked (hd : (s.conn i).st = .darkLocked) :
    s.release i = (.ok [], State.arbitrate { s with conns := s.conns.modify i fun c =>
      { c with
        st := .dark
        attempts := 0
        member := if c.member.map (·.kind) = some .recover then c.member else some ⟨.recover, 0⟩ } }) := by
  simp [State.release, hd, State.modConn, Conn.joinSet_eq]

theorem release_of_other (hf : (s.conn i).st ≠ .faulted) (hd : (s.conn i).st ≠ .darkLocked) :
    s.release i = (.notApplicable, s) := by
  unfold State.release
  cases h : (s.conn i).st with
  | faulted => exact absurd h hf
  | darkLocked => exact absurd h hd
  | steady | moving | resting | dark | unconfigured => rfl

end

end Sys2Proof.Machine

namespace Sys2Proof.Proofs

open Sys2Proof.Machine

/-- Settles O51: the row reaches its decision, and each branch of the statement is one case of the decision. -/
theorem releaseJoinsTheRecoverySet : Obligations.ReleaseJoinsTheRecoverySet := by
  intro i s hp hr hw c answered
  rw [exec_release_eq_respond hp hr (by simp)]
  congr 1
  by_cases hi : 31 < i.toNat
  · rw [if_pos hi, decideRelease_index_above hw hi]
    rfl
  rw [if_neg hi]
  have hi : i.toNat ≤ 31 := Nat.not_lt.mp hi
  by_cases hn : s.mode = .inventory ∨ s.configured i.toNat = false
  · rw [if_pos hn, decideRelease_not_released hw hi hn]
    rfl
  rw [if_neg hn, decideRelease_released hw hi hn]
  by_cases hf : c.st = .faulted
  · rw [if_pos hf]
    by_cases hpend : c.releasePending = true
    · rw [if_pos hpend, release_faulted_pending hf hpend]
      rfl
    · rw [if_neg hpend, release_faulted hf hpend]
      rfl
  rw [if_neg hf]
  by_cases hd : c.st = .darkLocked
  · rw [if_pos hd, release_darkLocked hd]
    rfl
  · rw [if_neg hd, release_of_other hf hd]
    rfl

end Sys2Proof.Proofs

/-! The balance computation's views and estimates: the quantity U in its two forms and its bound (R40), the digit-by-digit root
and the neutral estimate it gives (R41), and the views as a saturated sum and one fold over the peers' moves (R37 to R39). -/

namespace Sys2Proof.Machine

/-! ### Vectors by component -/

@[simp] theorem Ph3.get_map {α β : Type} (f : α → β) (v : Ph3 α) (p : Phase) : (v.map f).get p = f (v.get p) := by
  cases p <;> rfl

@[simp] theorem vecAdd_get (v w : Vec) (p : Phase) : (vecAdd v w).get p = v.get p + w.get p := by
  cases p <;> rfl

theorem within_iff (lim x : Int) : within lim x = true ↔ -lim ≤ x ∧ x ≤ lim := by
  simp [within]

theorem within_get {lim : Int} {v : Vec} (ha : within lim v.a = true) (hb : within lim v.b = true) (hc : within lim v.c = true) :
    ∀ r, within lim (v.get r) = true
  | .A => ha
  | .B => hb
  | .C => hc

theorem satComp_within (x : Int) : within 65535 (satComp x) = true := by
  rw [within_iff, satComp]
  omega

theorem applyMove_within (v : Vec) (p q : Phase) (c : Int) (r : Phase) :
    within 65535 ((applyMove v p q c).get r) = true := by
  rw [applyMove, Ph3.get_map]
  exact satComp_within _

/-! ### The quantity U (R40) -/

/-- The second form of the rule: the halving of the first form is exact. -/
theorem quantityU_eq (v : Vec) :
    quantityU v = v.a ^ 2 + v.b ^ 2 + v.c ^ 2 - v.a * v.b - v.b * v.c - v.c * v.a := by
  have hsum : (v.a - v.b) ^ 2 + (v.b - v.c) ^ 2 + (v.c - v.a) ^ 2
      = 2 * (v.a ^ 2 + v.b ^ 2 + v.c ^ 2 - v.a * v.b - v.b * v.c - v.c * v.a) := by ring
  rw [quantityU, hsum, Int.mul_ediv_cancel_left _ two_ne_zero]

theorem two_mul_quantityU (v : Vec) :
    2 * quantityU v = (v.a - v.b) ^ 2 + (v.b - v.c) ^ 2 + (v.c - v.a) ^ 2 := by
  rw [quantityU_eq]
  ring

theorem quantityU_nonneg (v : Vec) : 0 ≤ quantityU v := by
  have h := two_mul_quantityU v
  have hsquares : 0 ≤ (v.a - v.b) ^ 2 + (v.b - v.c) ^ 2 + (v.c - v.a) ^ 2 := by positivity
  omega

theorem quantityU_eq_zero_iff (v : Vec) : quantityU v = 0 ↔ v.a = v.b ∧ v.b = v.c := by
  have h := two_mul_quantityU v
  constructor
  · intro h0
    have hab := sq_nonneg (v.a - v.b)
    have hbc := sq_nonneg (v.b - v.c)
    have hca := sq_nonneg (v.c - v.a)
    have hab0 : v.a - v.b = 0 := pow_eq_zero_iff two_ne_zero |>.mp (by omega)
    have hbc0 : v.b - v.c = 0 := pow_eq_zero_iff two_ne_zero |>.mp (by omega)
    omega
  · rintro ⟨hab, hbc⟩
    rw [hab, hbc, sub_self] at h
    omega

/-- Of three values one lies between the other two: the three products together are minus a square. -/
theorem exists_between (a b c : Int) : (a - c) * (b - c) ≤ 0 ∨ (b - a) * (c - a) ≤ 0 ∨ (c - b) * (a - b) ≤ 0 := by
  by_contra h
  push Not at h
  obtain ⟨hc, ha, hb⟩ := h
  have hpos : 0 < (a - c) * (b - c) * ((b - a) * (c - a)) * ((c - b) * (a - b)) := mul_pos (mul_pos hc ha) hb
  have hsq : (a - c) * (b - c) * ((b - a) * (c - a)) * ((c - b) * (a - b)) = -((a - b) * (b - c) * (c - a)) ^ 2 := by ring
  linarith [sq_nonneg ((a - b) * (b - c) * (c - a))]

/-- U is at most the square of the difference of the outer two components, which saturation bounds. -/
theorem quantityU_le (v : Vec) (h : ∀ r, within 65535 (v.get r) = true) : quantityU v ≤ 131070 ^ 2 := by
  have hdiff (p q : Phase) : (v.get p - v.get q) ^ 2 ≤ 131070 ^ 2 := by
    have hp := (within_iff _ _).mp (h p)
    have hq := (within_iff _ _).mp (h q)
    exact sq_le_sq' (by omega) (by omega)
  have hab : (v.a - v.b) ^ 2 ≤ 131070 ^ 2 := hdiff .A .B
  have hbc : (v.b - v.c) ^ 2 ≤ 131070 ^ 2 := hdiff .B .C
  have hca : (v.c - v.a) ^ 2 ≤ 131070 ^ 2 := hdiff .C .A
  rw [quantityU_eq]
  rcases exists_between v.a v.b v.c with hmid | hmid | hmid
  · linarith
  · linarith
  · linarith

/-! ### The root, rounded down (R41) -/

/-- Each digit keeps the root between `r` and `r` with all the digits still to come. -/
theorem rootDigits_spec (u k r : Nat) (hlo : r ^ 2 ≤ u) (hhi : u < (r + 2 ^ k) ^ 2) :
    rootDigits u k r ^ 2 ≤ u ∧ u < (rootDigits u k r + 1) ^ 2 := by
  induction k generalizing r with
  | zero => exact ⟨hlo, hhi⟩
  | succ k ih =>
    rw [rootDigits]
    split
    next hdigit =>
      refine ih _ hdigit ?_
      rwa [add_assoc, ← two_mul, ← pow_succ']
    next hdigit => exact ih r hlo (Nat.lt_of_not_le hdigit)

theorem rootDown_spec (u : Nat) : rootDown u ^ 2 ≤ u ∧ u < (rootDown u + 1) ^ 2 := by
  refine rootDigits_spec u _ 0 (Nat.zero_le u) ?_
  calc u < 2 ^ (u.log2 + 1) := Nat.lt_log2_self
    _ ≤ 2 ^ ((u.log2 / 2 + 1) * 2) := Nat.pow_le_pow_right two_pos (by omega)
    _ = (0 + 2 ^ (u.log2 / 2 + 1)) ^ 2 := by rw [zero_add, pow_mul]

theorem neutral_spec (v : Vec) : (neutral v : Int) ^ 2 ≤ quantityU v ∧ quantityU v < ((neutral v : Int) + 1) ^ 2 := by
  have hroot := rootDown_spec (quantityU v).toNat
  have hU := Int.toNat_of_nonneg (quantityU_nonneg v)
  rw [← hU]
  exact_mod_cast hroot

/-- The estimate of a vector that saturation has bounded (R41). -/
theorem neutral_le (v : Vec) (h : ∀ r, within 65535 (v.get r) = true) : neutral v ≤ 131070 := by
  have hsq : (neutral v : Int) ^ 2 ≤ 131070 ^ 2 := (neutral_spec v).1.trans (quantityU_le v h)
  exact Nat.pow_le_pow_iff_left two_ne_zero |>.mp (by exact_mod_cast hsq)

/-! ### The views (R37 to R39) -/

/-- An entry counts when it is FRESH and no LOAD has marked it measurement-stale. -/
theorem Entry.not_stale_eq (e : Entry) : (!e.stale) = e.info.all fun x => !x.stale := by
  unfold Entry.stale
  cases e.info <;> rfl

theorem Entry.share_get (e : Entry) (p : Phase) :
    e.share.get p = if e.fresh && e.info.all (fun x => !x.stale) then ((e.vec.map fun v => v.get p).getD 0) else 0 := by
  rw [← Entry.not_stale_eq, Entry.share]
  split
  · cases e.vec with
    | none => cases p <;> rfl
    | some v => rfl
  · cases p <;> rfl

theorem Entry.projected_eq (e : Entry) :
    e.projected = if e.fresh && e.info.all (fun x => !x.stale)
      then (e.intent.map fun i => i.moves.drop e.concluded).getD [] else [] := by
  rw [← Entry.not_stale_eq, Entry.projected]
  cases e.intent with
  | none => rw [Option.map_none, Option.getD_none, List.drop_nil]; rfl
  | some i => rfl

theorem foldl_vecAdd_get {α : Type} (f : α → Vec) (l : List α) (v : Vec) (p : Phase) :
    (l.foldl (fun v e => vecAdd v (f e)) v).get p = v.get p + (l.map fun e => (f e).get p).sum := by
  induction l generalizing v with
  | nil => simp
  | cons e l ih => rw [List.foldl_cons, ih, vecAdd_get, List.map_cons, List.sum_cons, add_assoc]

theorem feederView_get (s : State) (p : Phase) :
    s.feederView.get p
      = satComp (s.meas.vec.get p + (s.nbrs.map fun e => ((e.map Entry.share).getD ⟨0, 0, 0⟩).get p).sum) := by
  rw [State.feederView, Ph3.get_map, State.viewSum, foldl_vecAdd_get]

/-- The peers' moves, in slot order and list order, are applied one after another. -/
theorem projectedView_eq (s : State) :
    s.projectedView
      = (s.nbrs.flatMap fun e => (e.map Entry.projected).getD []).foldl
          (fun w m => applyMove w m.src m.dst m.cur) s.feederView :=
  List.foldl_flatMap.symm

theorem feederView_within (s : State) (p : Phase) : within 65535 (s.feederView.get p) = true := by
  rw [feederView_get]
  exact satComp_within _

theorem foldl_applyMove_within (l : List FMove) (w : Vec) (h : ∀ r, within 65535 (w.get r) = true) (r : Phase) :
    within 65535 ((l.foldl (fun w m => applyMove w m.src m.dst m.cur) w).get r) = true := by
  induction l generalizing w with
  | nil => exact h r
  | cons m l ih => exact ih _ (applyMove_within w m.src m.dst m.cur)

theorem projectedView_within (s : State) (p : Phase) : within 65535 (s.projectedView.get p) = true := by
  rw [projectedView_eq]
  exact foldl_applyMove_within _ _ (feederView_within s) p

end Sys2Proof.Machine

namespace Sys2Proof.Proofs

open Sys2Proof.Machine

/-- The largest estimate is reached: two components at opposite ends of their range. -/
theorem neutral_bound_reached : neutral ⟨65535, -65535, 65535⟩ = 131070 := by
  decide +kernel

/-- Settles O40: the two forms of U, the root's own specification, and the views taken entry by entry. -/
theorem neutralEstimateIsExactRootDown : Obligations.NeutralEstimateIsExactRootDown := by
  refine ⟨fun v => ⟨two_mul_quantityU v, quantityU_eq v, quantityU_nonneg v, fun ha hb hc => ?_, quantityU_eq_zero_iff v⟩,
    neutral_spec, fun s p => ⟨feederView_within s p, projectedView_within s p⟩, fun v ha hb hc => ?_,
    neutral_bound_reached, ?_⟩
  · exact quantityU_le v (within_get ha hb hc)
  · exact neutral_le v (within_get ha hb hc)
  · intro s saturated counts moves applied
    constructor
    · intro p
      rw [feederView_get]
      refine congrArg (fun l : List Int => satComp (s.meas.vec.get p + l.sum)) (List.map_congr_left fun x _ => ?_)
      cases x with
      | none => cases p <;> rfl
      | some e => exact Entry.share_get e p
    · rw [projectedView_eq]
      have hmoves : (fun x : Option Entry => (x.map Entry.projected).getD []) = moves := by
        funext x
        cases x with
        | none => rfl
        | some e => exact Entry.projected_eq e
      rw [hmoves]
      rfl

end Sys2Proof.Proofs

/-! The gain of a move (R46) and the candidate a step of plan building selects (R47, R48): what the search through the candidates
gives back, the order in which it meets them, and the first move of a plan. -/

namespace Sys2Proof.Machine

/-! ### The gain of a move (R46) -/

theorem Ph3.get_set_of_ne {α : Type} {p q : Phase} (h : p ≠ q) (v : Ph3 α) (x : α) : (v.set p x).get q = v.get q := by
  cases p with
  | A => cases q with
    | A => exact absurd rfl h
    | B | C => rfl
  | B => cases q with
    | B => exact absurd rfl h
    | A | C => rfl
  | C => cases q with
    | C => exact absurd rfl h
    | A | B => rfl

/-- Between two phases the target's component is the one it had before the move. -/
theorem applyMove_of_ne {p q : Phase} (h : p ≠ q) (w : Vec) (c : Int) :
    applyMove w p q c = ((w.set p (w.get p - c)).set q (w.get q + c)).map satComp := by
  rw [applyMove, shift, Ph3.get_set_of_ne h]

/-- Both estimates are at most the bound of R41. -/
theorem gain_bounds {w : Vec} (h : ∀ r, within 65535 (w.get r) = true) (p q : Phase) (c : Int) :
    -131070 ≤ gain w p q c ∧ gain w p q c ≤ 131070 := by
  have hw := neutral_le w h
  have hm := neutral_le (applyMove w p q c) (applyMove_within w p q c)
  unfold gain
  omega

/-! ### What the search gives back -/

theorem Found.beats_iff (x y : Found) :
    x.beats y = true ↔ y.gain < x.gain ∨ (y.gain = x.gain ∧ x.move.cur.natAbs < y.move.cur.natAbs) := by
  simp [Found.beats, eq_comm (a := y.gain)]

theorem Found.beats_trans {x y z : Found} (hxy : x.beats y = true) (hyz : y.beats z = true) : x.beats z = true := by
  rw [Found.beats_iff] at *
  omega

/-- What does not beat `y` is beaten by what beats `y`. -/
theorem Found.beats_of_beats_of_not_beats {x y z : Found} (hxy : x.beats y = true) (hzy : ¬z.beats y = true) :
    x.beats z = true := by
  rw [Found.beats_iff] at *
  omega

/-- The selection beats all that was found before it, and nothing found after it beats the selection. -/
def SelectedIn (x : Found) (l : List Found) : Prop :=
  ∃ before after, l = before ++ x :: after ∧ (∀ y ∈ before, x.beats y = true) ∧ ∀ y ∈ after, ¬y.beats x = true

theorem SelectedIn.concat_of_beats {y z : Found} {l : List Found} (h : SelectedIn y l) (hz : z.beats y = true) :
    SelectedIn z (l ++ [z]) := by
  obtain ⟨before, after, rfl, hbefore, hafter⟩ := h
  refine ⟨before ++ y :: after, [], rfl, fun x hx => ?_, by simp⟩
  rcases List.mem_append.mp hx with hx | hx
  · exact Found.beats_trans hz (hbefore x hx)
  rcases List.mem_cons.mp hx with rfl | hx
  · exact hz
  · exact Found.beats_of_beats_of_not_beats hz (hafter x hx)

theorem SelectedIn.concat_of_not_beats {y z : Found} {l : List Found} (h : SelectedIn y l) (hz : ¬z.beats y = true) :
    SelectedIn y (l ++ [z]) := by
  obtain ⟨before, after, rfl, hbefore, hafter⟩ := h
  refine ⟨before, after ++ [z], by simp, hbefore, fun x hx => ?_⟩
  rcases List.mem_append.mp hx with hx | hx
  · exact hafter x hx
  · rwa [List.mem_singleton.mp hx]

/-- The search finds nothing only in an empty list, and otherwise gives back the list's selection. -/
theorem foldl_better_spec (l : List Found) :
    match l.foldl better none with
    | none => l = []
    | some x => SelectedIn x l := by
  induction l using List.reverseRecOn with
  | nil => rfl
  | append_singleton l z ih =>
    rw [List.foldl_concat]
    cases hl : l.foldl better none with
    | none =>
      rw [hl] at ih
      subst ih
      exact ⟨[], [], rfl, by simp, by simp⟩
    | some y =>
      rw [hl] at ih
      by_cases hz : z.beats y = true
      · simpa [better, hz] using ih.concat_of_beats hz
      · simpa [better, hz] using ih.concat_of_not_beats hz

/-! ### The order of selection (R48) -/

/-- The search meets `x` no later than `y`: the order of index, then target. -/
def Found.precedes (x y : Found) : Prop :=
  x.move.conn < y.move.conn ∨ (x.move.conn = y.move.conn ∧ (phaseCode x.move.dst).toNat ≤ (phaseCode y.move.dst).toNat)

/-- `x` may be selected when `y` could be: a higher gain, then the smaller current, then the earlier index and target. -/
def Found.preferred (x y : Found) : Prop :=
  y.gain < x.gain
    ∨ (y.gain = x.gain ∧ (x.move.cur.natAbs < y.move.cur.natAbs
        ∨ (x.move.cur.natAbs = y.move.cur.natAbs ∧ x.precedes y)))

theorem Found.preferred_refl (x : Found) : x.preferred x :=
  .inr ⟨rfl, .inr ⟨rfl, .inr ⟨rfl, Nat.le_refl _⟩⟩⟩

theorem Found.preferred_of_beats {x y : Found} (h : x.beats y = true) : x.preferred y := by
  rcases (Found.beats_iff x y).mp h with hgain | ⟨hgain, hcur⟩
  · exact .inl hgain
  · exact .inr ⟨hgain, .inl hcur⟩

/-- What comes later and does not win on gain or current loses the tie by its place. -/
theorem Found.preferred_of_precedes {x y : Found} (hxy : x.precedes y) (h : ¬y.beats x = true) : x.preferred y := by
  rw [Found.beats_iff] at h
  unfold Found.preferred
  by_cases hgain : y.gain = x.gain
  · refine .inr ⟨hgain, ?_⟩
    by_cases hcur : x.move.cur.natAbs = y.move.cur.natAbs
    · exact .inr ⟨hcur, hxy⟩
    · exact .inl (by omega)
  · exact .inl (by omega)

/-- In a list met in order, the selection is preferred to every member. -/
theorem SelectedIn.preferred {x : Found} {l : List Found} (h : SelectedIn x l) (hl : l.Pairwise Found.precedes) :
    ∀ y ∈ l, x.preferred y := by
  obtain ⟨before, after, rfl, hbefore, hafter⟩ := h
  obtain ⟨-, hx, -⟩ := List.pairwise_append.mp hl
  intro y hy
  rcases List.mem_append.mp hy with hy | hy
  · exact Found.preferred_of_beats (hbefore y hy)
  rcases List.mem_cons.mp hy with rfl | hy
  · exact Found.preferred_refl y
  · exact Found.preferred_of_precedes ((List.pairwise_cons.mp hx).1 y hy) (hafter y hy)

theorem SelectedIn.mem {x : Found} {l : List Found} (h : SelectedIn x l) : x ∈ l := by
  obtain ⟨before, after, rfl, -, -⟩ := h
  simp

/-! ### The candidates of a step (R44, R47) -/

section
variable (s : State) (w : Vec) (ways : List Vec) (plan : List Move)

/-- A candidate as a step of plan building finds it, with its held reading and its gain. -/
def State.found (i : Nat) (p q : Phase) : Found := ⟨⟨i, p, q, (s.held i).value⟩, gain w p q (s.held i).value⟩

/-- The candidates of a step, in the order the search meets them. -/
def State.candidates : List Found := (List.range 32).flatMap fun i => s.candidatesOf w ways plan i

theorem bestCandidate_eq : s.bestCandidate w ways plan = (s.candidates w ways plan).foldl better none := rfl

variable {s w ways plan}

theorem cur_of_candidate {i : Nat} {p q : Phase} (h : s.candidate ways i p q = true) : (s.conn i).cur = some p := by
  simp only [State.candidate, Bool.and_eq_true, beq_iff_eq] at h
  tauto

/-- The search gives a connection's candidates from its current phase; no other from-phase gives any. -/
theorem mem_candidatesOf_iff {i : Nat} {x : Found} :
    x ∈ s.candidatesOf w ways plan i ↔
      (plan.all fun m => m.conn != i) = true ∧ ∃ p q, s.candidate ways i p q = true ∧ x = s.found w i p q := by
  have hplan : (plan.any fun m => m.conn == i) = !(plan.all fun m => m.conn != i) := by
    simp [List.not_all_eq_any_not, bne]
  unfold State.candidatesOf
  rw [hplan]
  cases plan.all fun m => m.conn != i with
  | false => simp
  | true =>
    cases hcur : (s.conn i).cur with
    | none =>
      have hnone : ∀ p q, ¬s.candidate ways i p q = true := by
        intro p q h
        rw [cur_of_candidate h] at hcur
        cases hcur
      simp [hnone]
    | some p =>
      constructor
      · intro hx
        obtain ⟨q, hq, rfl⟩ := List.mem_map.mp hx
        exact ⟨rfl, p, q, (List.mem_filter.mp hq).2, rfl⟩
      · rintro ⟨-, p', q, hc, rfl⟩
        obtain rfl : p = p' := Option.some.inj (hcur.symm.trans (cur_of_candidate hc))
        have hq : q ∈ Phase.all := by cases q <;> simp [Phase.all]
        exact List.mem_map.mpr ⟨q, List.mem_filter.mpr ⟨hq, hc⟩, rfl⟩

theorem mem_candidates_iff {x : Found} :
    x ∈ s.candidates w ways plan ↔ ∃ i p q, x = s.found w i p q ∧ i < 32 ∧ (plan.all fun m => m.conn != i) = true
      ∧ s.candidate ways i p q = true := by
  simp only [State.candidates, List.mem_flatMap, List.mem_range, mem_candidatesOf_iff]
  constructor
  · rintro ⟨i, hi, hplan, p, q, hc, hx⟩
    exact ⟨i, p, q, hx, hi, hplan, hc⟩
  · rintro ⟨i, p, q, hx, hi, hplan, hc⟩
    exact ⟨i, hi, hplan, p, q, hc, hx⟩

theorem candidatesOf_conn {i : Nat} {x : Found} (h : x ∈ s.candidatesOf w ways plan i) : x.move.conn = i := by
  obtain ⟨-, p, q, -, rfl⟩ := mem_candidatesOf_iff.mp h
  rfl

/-- One connection's candidates come in target order. -/
theorem candidatesOf_pairwise (i : Nat) : (s.candidatesOf w ways plan i).Pairwise Found.precedes := by
  have hphases : Phase.all.Pairwise fun p q => (phaseCode p).toNat ≤ (phaseCode q).toNat := by decide
  unfold State.candidatesOf
  split
  · exact .nil
  · split
    · exact .nil
    · rw [List.pairwise_map]
      exact (hphases.filter _).imp fun h => .inr ⟨rfl, h⟩

/-- The candidates come in the order of index, and under one index of target. -/
theorem candidates_pairwise : (s.candidates w ways plan).Pairwise Found.precedes := by
  refine List.pairwise_flatMap.mpr ⟨fun i _ => candidatesOf_pairwise i, List.pairwise_lt_range.imp fun hij x hx y hy => ?_⟩
  rw [← candidatesOf_conn hx, ← candidatesOf_conn hy] at hij
  exact .inl hij

/-! ### The selection of a step (R48) -/

theorem candidates_of_bestCandidate_none (h : s.bestCandidate w ways plan = none) : s.candidates w ways plan = [] := by
  have hspec := foldl_better_spec (s.candidates w ways plan)
  rwa [← bestCandidate_eq, h] at hspec

theorem selectedIn_of_bestCandidate {x : Found} (h : s.bestCandidate w ways plan = some x) :
    SelectedIn x (s.candidates w ways plan) := by
  have hspec := foldl_better_spec (s.candidates w ways plan)
  rwa [← bestCandidate_eq, h] at hspec

end

/-! ### The first move of a plan (R47) -/

/-- Further moves are built onto a plan: its own stand before them. -/
theorem extendPlan_eq_append (s : State) (n : Nat) (w : Vec) (ways : List Vec) (plan : List Move) :
    ∃ further, s.extendPlan n w ways plan = plan ++ further := by
  induction n generalizing w ways plan with
  | zero => exact ⟨[], (List.append_nil plan).symm⟩
  | succ n ih =>
    rw [State.extendPlan]
    split
    next => exact ⟨[], (List.append_nil plan).symm⟩
    next x _ =>
      split
      · obtain ⟨further, hfurther⟩ := ih (applyMove w x.move.src x.move.dst x.move.cur)
          (s.adjustWays ways x.move.conn x.move.src x.move.dst x.move.cur) (plan ++ [x.move])
        exact ⟨x.move :: further, hfurther.trans (List.append_assoc _ _ _)⟩
      · exact ⟨[], (List.append_nil plan).symm⟩

theorem head_extendPlan {s : State} {n : Nat} {w : Vec} {ways : List Vec} {m : Move} {rest : List Move}
    (h : s.extendPlan n w ways [] = m :: rest) :
    ∃ x : Found, s.bestCandidate w ways [] = some x ∧ x.move = m ∧ (s.conf.gainFloor : Int) ≤ x.gain := by
  cases n with
  | zero => cases h
  | succ n =>
    rw [State.extendPlan] at h
    cases hbest : s.bestCandidate w ways [] with
    | none =>
      rw [hbest] at h
      cases h
    | some x =>
      simp only [hbest] at h
      split at h
      next hfloor =>
        obtain ⟨further, hfurther⟩ := extendPlan_eq_append s n _ _ ([] ++ [x.move])
        exact ⟨x, rfl, (List.cons.inj (hfurther.symm.trans h)).1, hfloor⟩
      next => cases h

end Sys2Proof.Machine

namespace Sys2Proof.Proofs

open Sys2Proof.Machine

/-- 10 A on phase A, of which 0.4 or 0.5 A is moved to phase B: U is 28 or 25, and the estimate 5 either way. -/
theorem exists_equal_gains : ∃ (w : Vec) (c d : Int),
    quantityU (applyMove w .A .B c) ≠ quantityU (applyMove w .A .B d) ∧ gain w .A .B c = gain w .A .B d :=
  ⟨⟨10, 0, 0⟩, 4, 5, by decide +kernel⟩

/-- Settles O42: the estimates bound the gain, the search gives back the preferred member of a list met in order, and the head of
a plan stays what the first step put there. -/
theorem stepSelectsTheBestGain : Obligations.StepSelectsTheBestGain := by
  refine ⟨fun w p q c hpq => ⟨?_, fun h => gain_bounds h p q c⟩, exists_equal_gains, fun s w ways plan => ?_,
    fun s m rest h => head_extendPlan h⟩
  · rw [gain, applyMove_of_ne hpq]
    rfl
  refine ⟨fun hnone i p q hopen => ?_, fun x hx => ?_⟩
  · have hmem := mem_candidates_iff (w := w).mpr ⟨i, p, q, rfl, hopen⟩
    rw [candidates_of_bestCandidate_none hnone] at hmem
    cases hmem
  · have hsel := selectedIn_of_bestCandidate hx
    obtain ⟨i, p, q, rfl, hopen⟩ := mem_candidates_iff.mp hsel.mem
    refine ⟨hopen, rfl, rfl, fun j p' q' hopen' => ?_⟩
    exact hsel.preferred candidates_pairwise _ (mem_candidates_iff.mpr ⟨j, p', q', rfl, hopen'⟩)

end Sys2Proof.Proofs

/-! The allowance (R88), the limit it puts on plans and on the taking of their moves, and the monitoring maximum: every step keeps the
balancing starts counted in a monitoring window at or below it, with room for a move whose READY is awaited (R84 to R88). -/

namespace Sys2Proof.Machine

variable {s t : State}

/-! ### The allowance and what it bounds (R47, R62, R88) -/

theorem allowance_of_open (h : s.budget.throttled = false) : s.allowance = s.conf.pMax := by
  simp [State.allowance, h]

theorem allowance_of_throttled (h : s.budget.throttled = true) : s.allowance = s.conf.monMax - s.budget.monCount := by
  simp [State.allowance, h]

/-- Each step of plan building adds at most one move. -/
theorem length_extendPlan_le (s : State) (n : Nat) (w : Vec) (ways : List Vec) (plan : List Move) :
    (s.extendPlan n w ways plan).length ≤ plan.length + n := by
  induction n generalizing w ways plan with
  | zero => exact Nat.le_refl _
  | succ n ih =>
    rw [State.extendPlan]
    split
    next => omega
    next x _ =>
      split
      · have hrest := ih (applyMove w x.move.src x.move.dst x.move.cur)
          (s.adjustWays ways x.move.conn x.move.src x.move.dst x.move.cur) (plan ++ [x.move])
        rw [List.length_append, List.length_singleton] at hrest
        exact hrest.trans (by omega)
      · omega

theorem length_buildPlan_le (s : State) : s.buildPlan.length ≤ min s.conf.pMax s.allowance := by
  have h := length_extendPlan_le s (min s.conf.pMax s.allowance) s.projectedView s.meas.ways []
  rwa [List.length_nil, Nat.zero_add] at h

theorem takePlanMove_of_no_allowance (pos : Nat) (m : Move) (h : s.allowance < 1) :
    s.takePlanMove pos m = s.planResult pos .skipped :=
  if_neg fun hroom => absurd hroom.2 (Nat.not_le.mpr h)

/-! ### The two parts of the monitoring invariant -/

/-- The READY awaited may begin a balancing transfer (R64, R84). -/
def Req.awaitsStart : Req → Bool
  | .move m => !m.rescue && m.step == .arming
  | .recovery _ _ _ | .check _ _ | .inventory _ _ => false

@[simp] theorem Req.awaitsStart_count (n : Nat) (r : Req) : (r.count n).awaitsStart = r.awaitsStart := by
  cases r <;> rfl

/-- The request in flight awaits the READY that may begin a balancing transfer. -/
def State.awaitsStart (s : State) : Bool := s.engine.req.any Req.awaitsStart

theorem State.awaitsStart_iff :
    s.awaitsStart = true ↔ ∃ m, s.engine.req = some (.move m) ∧ m.rescue = false ∧ m.step = .arming := by
  unfold State.awaitsStart
  constructor
  · intro h
    cases hr : s.engine.req with
    | none => simp [hr] at h
    | some r =>
      rw [hr] at h
      cases r with
      | move m => exact ⟨m, rfl, by simpa [Req.awaitsStart] using h⟩
      | recovery | check | inventory => cases h
  · rintro ⟨m, hr, hrescue, hstep⟩
    simp [hr, Req.awaitsStart, hrescue, hstep]

/-- The part of the monitoring invariant that does not look at the request in flight: THROTTLED in a working mode only, and the count
at or below the maximum (R86, R88). -/
def State.CountHeld (s : State) : Prop :=
  (s.mode.working = false → s.budget.throttled = false)
    ∧ (s.budget.throttled = true → s.budget.monCount ≤ s.conf.monMax)

/-- The other part is that the allowance has room for a start that is awaited. -/
theorem monitoringHeld_iff :
    s.MonitoringHeld ↔ s.CountHeld ∧ (s.budget.throttled = true → s.awaitsStart = true → 1 ≤ s.allowance) := by
  constructor
  · rintro ⟨hopen, hheld⟩
    refine ⟨⟨hopen, fun ht => (hheld ht).1⟩, fun ht ha => ?_⟩
    obtain ⟨m, hr, hrescue, hstep⟩ := State.awaitsStart_iff.mp ha
    have hroom := (hheld ht).2 m hr hrescue hstep
    rw [allowance_of_throttled ht]
    omega
  · rintro ⟨⟨hopen, hcount⟩, hroom⟩
    refine ⟨hopen, fun ht => ⟨hcount ht, fun m hr hrescue hstep => ?_⟩⟩
    have hleft := hroom ht (State.awaitsStart_iff.mpr ⟨m, hr, hrescue, hstep⟩)
    rw [allowance_of_throttled ht] at hleft
    omega

theorem State.MonitoringHeld.countHeld (h : s.MonitoringHeld) : s.CountHeld := (monitoringHeld_iff.mp h).1

theorem State.MonitoringHeld.room (h : s.MonitoringHeld) (ht : s.budget.throttled = true) (ha : s.awaitsStart = true) :
    1 ≤ s.allowance := (monitoringHeld_iff.mp h).2 ht ha

theorem monitoringHeld_of_open (h : s.budget.throttled = false) : s.MonitoringHeld :=
  ⟨fun _ => h, fun ht => absurd (h.symm.trans ht) Bool.false_ne_true⟩

/-- A move is in flight in a working mode only. -/
theorem State.Sound.working_of_move {m : MoveReq} (hs : s.Sound) (hr : s.engine.req = some (.move m)) :
    s.mode.working = true := by
  obtain ⟨-, -, -, -, hreq, -⟩ := hs
  rw [hr] at hreq
  have hactive : s.mode = .active := by
    simp only [State.reqSound, Bool.and_eq_true, beq_iff_eq] at hreq
    tauto
  rw [hactive]
  rfl

/-! ### What keeps the invariant: frames, requests, modes, and the budget's own ends -/

/-- THROTTLED only where `c` is, and with no higher a monitoring count. -/
def Budget.Within (b c : Budget) : Prop := b.throttled = true → c.throttled = true ∧ b.monCount ≤ c.monCount

theorem Budget.Within.refl (b : Budget) : b.Within b := fun h => ⟨h, Nat.le_refl _⟩

theorem Budget.Within.trans {a b c : Budget} (hab : a.Within b) (hbc : b.Within c) : a.Within c := fun h =>
  have hb := hab h
  have hc := hbc hb.1
  ⟨hc.1, hb.2.trans hc.2⟩

theorem Budget.samplingEnd_within (n : Nat) (b : Budget) : (b.samplingEnd n).Within b := by
  unfold Budget.samplingEnd
  split <;> exact Budget.Within.refl b

theorem Budget.monitoringEnd_within (n : Nat) (b : Budget) : (b.monitoringEnd n).Within b := by
  unfold Budget.monitoringEnd
  split
  · exact fun h => ⟨h, Nat.zero_le _⟩
  · exact Budget.Within.refl b

theorem Budget.throttleEnd_within (b : Budget) : b.throttleEnd.Within b := by
  unfold Budget.throttleEnd
  split
  · exact fun h => absurd h Bool.false_ne_true
  · exact Budget.Within.refl b

theorem Budget.second_within (n k : Nat) (b : Budget) : (b.second n k).Within b :=
  have hcounted : b.counted.Within b := fun h => ⟨h, Nat.le_refl _⟩
  ((Budget.monitoringEnd_within k _).trans (Budget.throttleEnd_within _)).trans
    ((Budget.samplingEnd_within n _).trans hcounted)

/-- A change that leaves mode, configuration and request, and the budget within what it was. -/
theorem State.MonitoringHeld.of_within (h : s.MonitoringHeld) (hb : t.budget.Within s.budget) (hm : t.mode = s.mode)
    (hc : t.cfg = s.cfg) (hr : t.engine.req = s.engine.req) : t.MonitoringHeld := by
  have hconf : t.conf = s.conf := by rw [State.conf, State.conf, hc]
  obtain ⟨hopen, hheld⟩ := h
  refine ⟨fun hw => ?_, fun ht => ?_⟩
  · have hnot : ¬t.budget.throttled = true := fun ht => Bool.false_ne_true ((hopen (hm ▸ hw)).symm.trans (hb ht).1)
    exact Bool.eq_false_iff.mpr hnot
  · obtain ⟨hthrottled, hle⟩ := hb ht
    obtain ⟨hcount, hroom⟩ := hheld hthrottled
    rw [hconf, hr]
    exact ⟨hle.trans hcount, fun m hreq hrescue hstep => (Nat.succ_le_succ hle).trans (hroom m hreq hrescue hstep)⟩

/-- What the monitoring invariant looks at. -/
@[simp] def State.watched (s : State) : Mode × Budget × Option Cfg × Option Req :=
  (s.station.mode, s.budget, s.cfg, s.engine.req)

theorem State.MonitoringHeld.of_frame (h : s.MonitoringHeld) (hw : t.watched = s.watched) : t.MonitoringHeld := by
  simp only [State.watched, Prod.mk.injEq] at hw
  obtain ⟨hm, hb, hc, hr⟩ := hw
  exact h.of_within (hb ▸ Budget.Within.refl _) hm hc hr

theorem State.MonitoringHeld.of_ite {c : Prop} [Decidable c] {u : State} (ht : t.MonitoringHeld) (hu : u.MonitoringHeld) :
    (if c then t else u).MonitoringHeld := by
  split
  · exact ht
  · exact hu

theorem State.MonitoringHeld.of_powered {f : State → State} (h : s.MonitoringHeld) (hf : (f s).MonitoringHeld) :
    (powered f s).MonitoringHeld := h.of_ite hf

theorem State.MonitoringHeld.enterMode {m : Mode} (h : s.MonitoringHeld) (hm : m.working = true) (n : Option Nat) :
    (s.enterMode m n).MonitoringHeld :=
  ⟨fun hw => absurd (hm.symm.trans hw) Bool.false_ne_true.symm, h.2⟩

/-- A request that awaits no balancing start asks for no room. -/
theorem State.CountHeld.setReq {r : Option Req} (h : s.CountHeld) (hr : r.any Req.awaitsStart = false) :
    (s.setReq r).MonitoringHeld :=
  monitoringHeld_iff.mpr ⟨h, fun _ ha => absurd (hr.symm.trans ha) Bool.false_ne_true⟩

theorem State.CountHeld.atStep {st : MoveStep} (h : s.CountHeld) (m : MoveReq) (n : Nat)
    (hst : (st == .arming) = false) : (s.atStep m st n).MonitoringHeld :=
  h.setReq (by simp [Req.awaitsStart, hst])

theorem State.MonitoringHeld.cyclesPass (h : s.MonitoringHeld) (n : Nat) : (s.cyclesPass n).MonitoringHeld := by
  have hmode : (s.cyclesPass n).mode = s.mode := by simp [State.mode]
  have hawaits : (s.cyclesPass n).awaitsStart = s.awaitsStart := by
    simp [State.cyclesPass, State.awaitsStart, Option.any_map]
  have hh := monitoringHeld_iff.mp h
  rw [monitoringHeld_iff, hawaits]
  simpa [State.CountHeld, hmode, State.allowance, State.conf] using hh

/-! ### The engine's requests (chapter 4) -/

theorem State.MonitoringHeld.sendCommand (h : s.MonitoringHeld) (c : ModCmd) : (s.sendCommand c).MonitoringHeld := h

@[simp] theorem State.rescueEmptied_req (s : State) : s.rescueEmptied.engine.req = s.engine.req := by
  unfold State.rescueEmptied
  split <;> simp

@[simp] theorem State.appendRescue_req (x : Phase) (s : State) (i : Nat) :
    (s.appendRescue x i).engine.req = s.engine.req := by
  unfold State.appendRescue
  split <;> simp

@[simp] theorem State.appendStranded_req (i : Nat) (s : State) : (s.appendStranded i).engine.req = s.engine.req := by
  unfold State.appendStranded
  (repeat' split) <;> simp

@[simp] theorem State.recordConclusion_req (m : MoveReq) (k : Conclusion) (s : State) :
    (s.recordConclusion m k).engine.req = s.engine.req := by
  simp only [State.recordConclusion]
  (repeat' split) <;> simp

@[simp] theorem State.appendSelected_req (x : Phase) (s : State) : (s.appendSelected x).engine.req = s.engine.req := by
  unfold State.appendSelected
  split
  · exact List.foldlRecOn (motive := fun t => t.engine.req = s.engine.req) _ _ rfl
      fun t ht i _ => (State.appendRescue_req x t i).trans ht
  · rfl

/-- A move is taken: a balancing one needs room for its start. -/
theorem State.MonitoringHeld.takeMove {m : MoveReq} (h : s.MonitoringHeld) (hroom : m.rescue = false → 1 ≤ s.allowance) :
    (s.takeMove m).MonitoringHeld := by
  refine monitoringHeld_iff.mpr ⟨h.countHeld, fun _ ha => hroom ?_⟩
  obtain ⟨n, hn, hrescue, -⟩ := State.awaitsStart_iff.mp ha
  cases hn
  exact hrescue

/-- The arbiter takes a plan move within the allowance alone, and so with room for its start (R62). -/
theorem State.MonitoringHeld.takePlanMove (h : s.MonitoringHeld) (pos : Nat) (m : Move) :
    (s.takePlanMove pos m).MonitoringHeld := by
  unfold State.takePlanMove
  split
  next hroom => exact h.takeMove fun _ => hroom.2
  next => exact h.of_frame (by simp)

theorem State.MonitoringHeld.takeRescue (h : s.MonitoringHeld) (x : RescueEntry) : (s.takeRescue x).MonitoringHeld := by
  have hlist : (s.modEngine fun e => { e with rescue := e.rescue.tail }).MonitoringHeld := h.of_frame (by simp)
  simp only [State.takeRescue]
  split
  · exact hlist.of_frame (by simp)
  · split
    · exact hlist.of_frame (by simp)
    · exact hlist.takeMove fun hrescue => absurd hrescue.symm Bool.false_ne_true

theorem State.MonitoringHeld.takeMember (h : s.MonitoringHeld) (i : Nat) (k : RecKind) : (s.takeMember i k).MonitoringHeld :=
  (h.countHeld.setReq (by cases k <;> rfl)).sendCommand _

theorem State.MonitoringHeld.takeInventory (h : s.MonitoringHeld) : s.takeInventory.MonitoringHeld :=
  ((h.countHeld.setReq (by rfl)).sendCommand _).of_ite h

theorem State.MonitoringHeld.arbiter (h : s.MonitoringHeld) (n : Nat) : (s.arbiter n).MonitoringHeld := by
  induction n generalizing s with
  | zero => exact h
  | succ n ih =>
    unfold State.arbiter
    refine h.of_ite ?_
    cases s.mode with
    | loading | configFault | blackout => exact h
    | inventory => exact h.takeInventory
    | listenOnly =>
      cases s.dueMember with
      | none => exact h
      | some k => exact h.takeMember k.1 k.2
    | active =>
      cases s.dueMember with
      | some k => exact h.takeMember k.1 k.2
      | none =>
        cases s.engine.rescue with
        | cons x _ => exact ih (h.takeRescue x)
        | nil =>
          cases s.offeredMove with
          | none => exact h
          | some k => exact ih (h.takePlanMove k.1 k.2)

theorem State.MonitoringHeld.arbitrate (h : s.MonitoringHeld) : s.arbitrate.MonitoringHeld := h.arbiter _

/-- A move concludes: the engine is FREE before the planner, a hold and the arbiter take what follows (R72). -/
theorem State.MonitoringHeld.concludeMove (h : s.MonitoringHeld) (m : MoveReq) (k : Conclusion) (silent holdAsked : Bool) :
    (s.concludeMove m k silent holdAsked).MonitoringHeld := by
  simp only [State.concludeMove]
  have hfree (b : Bool) : (((s.recordConclusion m k).flagConclusion m.rescue b silent k).setReq none).MonitoringHeld :=
    have hflagged : ((s.recordConclusion m k).flagConclusion m.rescue b silent k).MonitoringHeld := h.of_frame (by simp)
    hflagged.countHeld.setReq rfl
  have htold {t : State} (ht : t.MonitoringHeld) :
      (if m.rescue then t.rescueEmptied else t.planResult m.pos k.result).MonitoringHeld :=
    (ht.of_frame (by simp)).of_ite (ht.of_frame (by simp))
  have hasked {t : State} (ht : t.MonitoringHeld) :
      (if holdAsked ∧ t.isActive then t.issueHold t.conf.holdTime .darkConnection else t).MonitoringHeld :=
    (ht.of_frame (by simp)).of_ite ht
  exact (hasked (htold (hfree _))).arbitrate

theorem State.CountHeld.sendBreak (h : s.CountHeld) (m : MoveReq) : (s.sendBreak m).MonitoringHeld :=
  (h.atStep m _ (by rfl)).sendCommand _

theorem State.CountHeld.enterBreaking (h : s.CountHeld) (m : MoveReq) : (s.enterBreaking m).MonitoringHeld :=
  (h.atStep m _ (by rfl)).of_ite (h.sendBreak m)

theorem State.MonitoringHeld.failFallback (h : s.MonitoringHeld) (m : MoveReq) : (s.failFallback m).MonitoringHeld :=
  h.concludeMove m _ _ _

theorem State.MonitoringHeld.enterFallback (h : s.MonitoringHeld) (m : MoveReq) : (s.enterFallback m).MonitoringHeld := by
  unfold State.enterFallback
  cases s.fallbackTarget m with
  | some x => exact h.countHeld.atStep m _ (by rfl)
  | none => exact h.failFallback m

theorem State.MonitoringHeld.enterGap (h : s.MonitoringHeld) (m : MoveReq) : (s.enterGap m).MonitoringHeld :=
  (h.countHeld.atStep m _ (by rfl)).of_ite (h.enterFallback m)

theorem State.MonitoringHeld.enterSettling (h : s.MonitoringHeld) (m : MoveReq) : (s.enterSettling m).MonitoringHeld :=
  (h.countHeld.atStep m _ (by rfl)).of_ite (h.concludeMove m _ _ _)

theorem State.MonitoringHeld.endSettling (h : s.MonitoringHeld) : s.endSettling.MonitoringHeld := by
  unfold State.endSettling
  split
  · exact (h.concludeMove _ _ _ _).of_ite h
  all_goals exact h

theorem State.MonitoringHeld.finishRecovery (h : s.MonitoringHeld) (i : Nat) : (s.finishRecovery i).MonitoringHeld :=
  ((h.countHeld.setReq (r := none) rfl).of_frame (by simp)).arbitrate

theorem State.MonitoringHeld.recoveredOn (h : s.MonitoringHeld) (i : Nat) (x : Phase) (ok : Bool) :
    (s.recoveredOn i x ok).MonitoringHeld := (h.of_frame (by simp)).finishRecovery i

theorem State.MonitoringHeld.attemptFailed (h : s.MonitoringHeld) (i : Nat) : (s.attemptFailed i).MonitoringHeld :=
  (h.of_frame (by simp)).finishRecovery i

theorem State.MonitoringHeld.attemptNotMade (h : s.MonitoringHeld) (i : Nat) : (s.attemptNotMade i).MonitoringHeld :=
  (h.of_frame (by simp)).finishRecovery i

theorem State.MonitoringHeld.recoverDark (h : s.MonitoringHeld) (i : Nat) : (s.recoverDark i).MonitoringHeld := by
  have hdark : (s.modConn i fun c => { c with cur := none }).MonitoringHeld := h.of_frame (by simp)
  simp only [State.recoverDark]
  split
  · exact hdark.countHeld.setReq (by rfl)
  · exact hdark.attemptNotMade i

theorem State.MonitoringHeld.releaseChecked (h : s.MonitoringHeld) (i : Nat) (a : Option (Option Phase)) :
    (s.releaseChecked i a).MonitoringHeld := (h.of_frame (by simp)).finishRecovery i

/-! ### Modes and phase events (chapters 1 and 10) -/

theorem State.MonitoringHeld.enterListenOnly (h : s.MonitoringHeld) : s.enterListenOnly.MonitoringHeld :=
  (h.enterMode rfl _).arbitrate

theorem State.MonitoringHeld.startBudget (h : s.MonitoringHeld) : s.startBudget.MonitoringHeld :=
  h.of_ite (h.of_within (Budget.Within.refl s.budget) rfl rfl rfl)

theorem State.MonitoringHeld.enterActive (h : s.MonitoringHeld) : s.enterActive.MonitoringHeld :=
  ((h.enterMode (m := .active) rfl none).of_frame (by simp)).startBudget.arbitrate

theorem State.MonitoringHeld.abandonRequest (h : s.MonitoringHeld) : s.abandonRequest.MonitoringHeld := by
  unfold State.abandonRequest
  split
  · exact h.concludeMove _ _ _ _
  · exact h.countHeld.setReq (by rfl)
  · exact h.countHeld.setReq (by rfl)
  · exact h.countHeld.setReq (by rfl)
  · exact h

theorem State.MonitoringHeld.enterBlackout (h : s.MonitoringHeld) : s.enterBlackout.MonitoringHeld :=
  ((h.enterMode (m := .blackout) rfl none).of_frame (by simp)).abandonRequest

theorem State.MonitoringHeld.beginInventory (h : s.MonitoringHeld) : s.beginInventory.MonitoringHeld := by
  refine State.MonitoringHeld.arbitrate ?_
  exact ((h.enterMode (m := .inventory) rfl none).countHeld.setReq (r := none) rfl).of_frame rfl

theorem State.MonitoringHeld.finishInventoryQuery (h : s.MonitoringHeld) (i : Nat) :
    (s.finishInventoryQuery i).MonitoringHeld := by
  have hfree : (s.modEngine fun e => { e with req := none, invNext := i + 1 }).MonitoringHeld :=
    (h.countHeld.setReq (r := none) rfl).of_frame (by simp)
  exact hfree.arbitrate.of_ite hfree.enterListenOnly

theorem State.MonitoringHeld.inventoryAnswer (h : s.MonitoringHeld) (i : Nat) (a : Option (Option Phase)) :
    (s.inventoryAnswer i a).MonitoringHeld := (h.of_frame (by simp)).finishInventoryQuery i

/-- A restart leaves the budget OPEN (R82). -/
theorem restartEvent_monitoringHeld (s : State) : s.restartEvent.MonitoringHeld :=
  State.MonitoringHeld.beginInventory (monitoringHeld_of_open rfl)

theorem State.MonitoringHeld.engineLoss (h : s.MonitoringHeld) (x : Phase) : (s.engineLoss x).MonitoringHeld := by
  unfold State.engineLoss
  split
  next m _ =>
    cases m.step with
    | breakWait => exact (h.countHeld.sendBreak m).of_ite h
    | gap => exact (h.enterFallback m).of_ite h
    | fbWait => exact (h.failFallback m).of_ite h
    | arming | breakSent | breakQuery | making | fbMake | settling => exact h
  next i _ _ _ => exact (h.attemptFailed i).of_ite h
  next => exact h
  next => exact h
  next => exact h
  next => exact h
  next => exact h.arbitrate

theorem State.MonitoringHeld.phaseLoss (h : s.MonitoringHeld) (x : Phase) : (s.phaseLoss x).MonitoringHeld := by
  have htaken {t : State} (ht : t.MonitoringHeld) :
      (((t.appendSelected x).engineLoss x).plannerPhaseLoss).MonitoringHeld :=
    ((ht.of_frame (by simp) : (t.appendSelected x).MonitoringHeld).engineLoss x).of_frame (by simp)
  simp only [State.phaseLoss]
  refine (State.MonitoringHeld.of_ite ?_ ?_).of_ite (htaken (h.of_frame (by simp)))
  · exact (h.of_frame (by simp)).enterBlackout
  · exact (htaken (h.of_frame (by simp))).enterBlackout

theorem State.MonitoringHeld.phaseReturn (h : s.MonitoringHeld) (x : Phase) : (s.phaseReturn x).MonitoringHeld := by
  simp only [State.phaseReturn]
  split
  · exact (h.of_frame (by simp)).enterListenOnly
  · exact ((h.of_frame (by simp)).enterMode rfl _).of_ite (h.of_frame (by simp))
  all_goals exact h.of_frame (by simp)

/-! ### The neighbour table and its notices (chapters 7 and 8) -/

theorem State.MonitoringHeld.releasePlanner (h : s.MonitoringHeld) : s.releasePlanner.MonitoringHeld := by
  have hkept : (s.modPlanner fun p => { p with listenT := none }).recheck.MonitoringHeld := h.of_frame (by simp)
  exact (State.MonitoringHeld.arbitrate (hkept.of_frame (by simp))).of_ite hkept

theorem State.MonitoringHeld.removePairs (h : s.MonitoringHeld) (gone : PrecPair → Bool) :
    (s.removePairs gone).MonitoringHeld := by
  have hleft : (s.modPlanner fun p => { p with prec := p.prec.filter fun k => !gone k }).MonitoringHeld := h.of_frame (by simp)
  exact hleft.releasePlanner.of_ite hleft

theorem State.MonitoringHeld.onNumber (h : s.MonitoringHeld) (addr : Nat) (num : Byte) :
    (s.onNumber addr num).MonitoringHeld := h.removePairs _

theorem State.MonitoringHeld.onEntryGone (h : s.MonitoringHeld) (addr : Nat) : (s.onEntryGone addr).MonitoringHeld :=
  h.removePairs _

theorem State.MonitoringHeld.onCleared (h : s.MonitoringHeld) (addr : Nat) (i : Option PIntent) :
    (s.onCleared addr i).MonitoringHeld := by
  cases i with
  | none => exact h
  | some x => exact h.onNumber addr x.num

theorem State.MonitoringHeld.onHeard (h : s.MonitoringHeld) (addr : Nat) (f : Frame) : (s.onHeard addr f).MonitoringHeld := by
  cases f with
  | intent b => exact (h.of_frame (by simp) : s.onPeerIntent.MonitoringHeld)
  | outcome b => exact h.onNumber addr b.num
  | hold b => exact h
  | load b =>
    unfold State.onHeard
    dsimp only
    split
    · exact h.onNumber addr _
    · exact h

theorem State.MonitoringHeld.onPeerHold (h : s.MonitoringHeld) (before : Bool) : (s.onPeerHold before).MonitoringHeld :=
  h.of_frame (by simp)

theorem State.MonitoringHeld.takeFrame (h : s.MonitoringHeld) (addr : Nat) (f : Frame) :
    (s.takeFrame addr f).MonitoringHeld := by
  simp only [State.takeFrame]
  split
  · exact h.of_frame (by simp)
  next k e old _ =>
    have hstored : ((s.setSlot k (some (e.store f))).flagHold f).MonitoringHeld := h.of_frame (by simp)
    have hheard {t : State} (ht : t.MonitoringHeld) :
        (((t.onCleared addr (e.clears f)).onHeard addr f).onPeerHold s.peerHeld).MonitoringHeld :=
      ((ht.onCleared addr (e.clears f)).onHeard addr f).onPeerHold _
    cases old with
    | none => exact hheard hstored
    | some o => exact hheard ((hstored.onEntryGone o.addr).onCleared o.addr o.intent)

theorem State.MonitoringHeld.receiveFrame (h : s.MonitoringHeld) (bytes : List Byte) : (s.receiveFrame bytes).MonitoringHeld := by
  have hended : s.endAssembly.MonitoringHeld := h.of_frame (by simp)
  unfold State.receiveFrame
  split
  · exact (hended.of_frame (by simp)).of_ite (hended.takeFrame _ _)
  · exact hended

theorem State.MonitoringHeld.onEntrySecond (h : s.MonitoringHeld) (old : Entry) (e : Option Entry) :
    (s.onEntrySecond old e).MonitoringHeld := by
  have hgone : (if e.all fun x => old.fresh && !x.fresh then s.onEntryGone old.addr else s).MonitoringHeld :=
    (h.onEntryGone old.addr).of_ite h
  exact hgone.of_ite (hgone.onCleared old.addr old.intent)

theorem State.MonitoringHeld.onTableSecond (h : s.MonitoringHeld) (before after : List (Option Entry)) :
    (s.onTableSecond before after).MonitoringHeld := by
  refine List.foldlRecOn (motive := State.MonitoringHeld) _ _ h fun t ht x _ => ?_
  rcases x with ⟨_ | old, e⟩
  · exact ht
  · exact ht.onEntrySecond old e

theorem State.MonitoringHeld.noticesOrLapse (h : s.MonitoringHeld) (before after : List (Option Entry)) :
    (s.noticesOrLapse before after).MonitoringHeld := by
  have hdrawn : s.drawn.MonitoringHeld := h.of_frame (by simp)
  exact ((hdrawn.of_frame (by simp)).of_ite (hdrawn.onTableSecond before after)).of_ite (h.onTableSecond before after)

theorem State.MonitoringHeld.tableSecond (h : s.MonitoringHeld) : s.tableSecond.MonitoringHeld := by
  have haged (l : List (Option Entry)) : { s with nbrs := l }.MonitoringHeld := h.of_frame (by simp)
  exact ((haged _).noticesOrLapse _ _).onPeerHold _

theorem State.MonitoringHeld.staleAge (h : s.MonitoringHeld) (k : Nat) : (s.staleAge k).MonitoringHeld := by
  unfold State.staleAge
  cases s.slot k with
  | none => exact h
  | some e =>
    have hslot : (s.setSlot k (some e.staled)).MonitoringHeld := h.of_frame (by simp)
    exact (((hslot.onEntryGone e.addr).onCleared e.addr e.intent).onPeerHold _).of_ite h

theorem State.MonitoringHeld.forgetAge (h : s.MonitoringHeld) (k : Nat) : (s.forgetAge k).MonitoringHeld := by
  unfold State.forgetAge
  cases s.slot k with
  | none => exact h
  | some e =>
    have hslot : (s.setSlot k none).MonitoringHeld := h.of_frame (by simp)
    exact (((hslot.onEntryGone e.addr).onCleared e.addr e.intent).onPeerHold _).of_ite h

theorem State.MonitoringHeld.intentLifetimeEnd (h : s.MonitoringHeld) (k : Nat) : (s.intentLifetimeEnd k).MonitoringHeld := by
  unfold State.intentLifetimeEnd
  cases s.slot k with
  | none => exact h
  | some e =>
    have hslot : (s.setSlot k (some { e with intent := none })).MonitoringHeld := h.of_frame (by simp)
    exact (hslot.onCleared e.addr e.intent).of_ite h

theorem State.MonitoringHeld.listenExpiry (h : s.MonitoringHeld) : s.listenExpiry.MonitoringHeld :=
  (h.releasePlanner.of_ite (h.of_frame (by simp))).of_ite h

theorem State.MonitoringHeld.listenOnlyExpiry (h : s.MonitoringHeld) : s.listenOnlyExpiry.MonitoringHeld :=
  (h.enterActive.of_ite h.enterBlackout).of_ite h

/-! ### Crossings, ticks and records (chapter 1) -/

theorem State.MonitoringHeld.referenceCrossing (h : s.MonitoringHeld) (p : Phase) : (s.referenceCrossing p).MonitoringHeld :=
  (h.of_frame (by simp)).of_ite ((h.of_frame (by simp)).of_ite (State.MonitoringHeld.cyclesPass (h.of_frame (by simp)) 1))

theorem State.MonitoringHeld.engineCrossing (h : s.MonitoringHeld) (p : Phase) : (s.engineCrossing p).MonitoringHeld := by
  unfold State.engineCrossing
  split
  next m _ =>
    cases m.step with
    | breakWait => exact (h.countHeld.sendBreak m).of_ite h
    | gap => exact ((h.countHeld.atStep m _ (by rfl)).sendCommand _).of_ite h
    | fbWait => exact ((h.countHeld.atStep m _ (by rfl)).sendCommand _).of_ite h
    | arming | breakSent | breakQuery | making | fbMake | settling => exact h
  next => exact ((h.countHeld.setReq (by rfl)).sendCommand _).of_ite h
  all_goals exact h

theorem State.MonitoringHeld.crossing (h : s.MonitoringHeld) (p : Phase) (e : Edge) : (s.crossing p e).MonitoringHeld := by
  simp only [State.crossing]
  refine State.MonitoringHeld.engineCrossing (.of_ite (.of_ite ?_ ?_) ?_) p
  · exact State.MonitoringHeld.referenceCrossing (h.of_frame (by simp)) p
  · exact h.of_frame (by simp)
  · exact h.of_frame (by simp)

/-- The tick's own ends zero the monitoring count or end the throttle period (R86, R87). -/
theorem State.MonitoringHeld.countSecond (h : s.MonitoringHeld) : s.countSecond.MonitoringHeld :=
  h.of_within (Budget.second_within _ _ s.budget) rfl rfl rfl

theorem State.MonitoringHeld.ageEnd (h : s.MonitoringHeld) : s.ageEnd.MonitoringHeld :=
  (State.MonitoringHeld.endSettling (h.of_frame (by simp))).of_ite h

theorem State.MonitoringHeld.second (h : s.MonitoringHeld) : s.second.MonitoringHeld := h.countSecond.tableSecond.ageEnd

theorem State.MonitoringHeld.secondsTick (h : s.MonitoringHeld) : s.secondsTick.MonitoringHeld := by
  refine (State.MonitoringHeld.second (h.of_frame (by simp))).of_ite ?_
  cases s.time.source with
  | holdover => exact h.second
  | mains => exact h

theorem State.MonitoringHeld.examine (h : s.MonitoringHeld) (volts : Ph3 Nat) (p : Phase) :
    (s.examine volts p).MonitoringHeld :=
  ((h.phaseLoss p).of_ite h).of_ite ((h.phaseReturn p).of_ite (h.of_frame (by simp)))

theorem State.MonitoringHeld.supervise (h : s.MonitoringHeld) (volts : Ph3 Nat) : (s.supervise volts).MonitoringHeld :=
  List.foldlRecOn (motive := State.MonitoringHeld) Phase.all (State.examine volts) h fun _ ht p _ => ht.examine volts p

theorem State.MonitoringHeld.acceptRecord (h : s.MonitoringHeld) (w : Byte) (rs : List Reading) (volts : Ph3 Nat) :
    (s.acceptRecord w rs volts).MonitoringHeld := by
  have htaken : ((s.recordTaken w rs).freshen).MonitoringHeld := h.of_frame (by simp)
  have hcompared : (((s.recordTaken w rs).freshen).supervise volts).compareAll.MonitoringHeld :=
    (htaken.supervise volts).of_frame (by simp)
  exact hcompared.endSettling

/-! ### Answers and timeouts (sections 4.1, 4.4 and 4.5) -/

theorem req_of_answered {i : Nat} {good : Bool} {r : Req} (h : s.answered i good = some r) : s.engine.req = some r := by
  unfold State.answered at h
  split at h
  next q hq =>
    split at h
    · exact hq.trans h
    · cases h
  next => cases h

/-- A balancing start is reported from a working mode while its READY is awaited: it enters THROTTLED with a count of 0, or takes the
room kept for it (R84 to R86, R88). -/
theorem State.MonitoringHeld.budgetStart_countHeld (h : s.MonitoringHeld) (hw : s.mode.working = true)
    (ha : s.awaitsStart = true) : s.budgetStart.CountHeld := by
  have hmode : s.budgetStart.mode = s.mode := by simp [State.mode]
  have hconf : s.budgetStart.conf = s.conf := by simp [State.conf]
  refine ⟨fun hn => absurd (hw.symm.trans (hmode ▸ hn)) Bool.false_ne_true.symm, ?_⟩
  rw [hconf]
  unfold State.budgetStart
  split
  next ht =>
    have hroom := h.room ht ha
    rw [allowance_of_throttled ht] at hroom
    exact fun _ => (by omega : s.budget.monCount + 1 ≤ s.conf.monMax)
  next ht =>
    split
    · exact fun _ => Nat.zero_le _
    · exact fun hthrottled => absurd hthrottled ht

theorem State.MonitoringHeld.ready (h : s.MonitoringHeld) (hs : s.Sound) (i : Nat) (path : Option Phase) (good : Bool) :
    (s.ready i path good).MonitoringHeld := by
  unfold State.ready
  split
  next m hm =>
    have hreq := req_of_answered hm
    split
    next harming =>
      unfold State.readyTaken
      cases path with
      | none => exact h.concludeMove m _ _ _
      | some r =>
        refine .of_ite (State.CountHeld.enterBreaking ?_ m) (h.concludeMove m _ _ _)
        split
        · exact h.countHeld
        next hbalancing =>
          exact h.budgetStart_countHeld (hs.working_of_move hreq)
            (State.awaitsStart_iff.mpr ⟨m, hreq, Bool.not_eq_true _ ▸ hbalancing, harming⟩)
    next => exact h
  next => exact h

theorem State.MonitoringHeld.notReady (h : s.MonitoringHeld) (i : Nat) (good : Bool) : (s.notReady i good).MonitoringHeld := by
  unfold State.notReady
  split
  · exact (h.concludeMove _ _ _ _).of_ite h
  · exact h

theorem State.MonitoringHeld.opened (h : s.MonitoringHeld) (i : Nat) (good : Bool) : (s.opened i good).MonitoringHeld := by
  unfold State.opened
  split
  next m _ =>
    have hopen : (s.setCur m.conn none).MonitoringHeld := h.of_frame (by simp)
    exact (hopen.enterGap m).of_ite h
  · exact h

theorem State.MonitoringHeld.sendBreakQuery (h : s.MonitoringHeld) (m : MoveReq) : (s.sendBreakQuery m).MonitoringHeld :=
  (h.countHeld.atStep m _ (by rfl)).sendCommand _

theorem State.MonitoringHeld.refused (h : s.MonitoringHeld) (r : Req) : (s.refused r).MonitoringHeld := by
  unfold State.refused
  split
  next m =>
    cases m.step with
    | breakSent => exact h.sendBreakQuery m
    | making => exact h.enterFallback m
    | fbMake => exact h.failFallback m
    | arming | breakWait | breakQuery | gap | fbWait | settling => exact h
  next i _ _ => exact h.attemptFailed i
  all_goals exact h

theorem State.MonitoringHeld.nak (h : s.MonitoringHeld) (i : Nat) (good : Bool) : (s.nak i good).MonitoringHeld := by
  unfold State.nak
  cases s.answered i good with
  | some r => exact h.refused r
  | none => exact h

theorem State.MonitoringHeld.closedTaken (h : s.MonitoringHeld) (r : Req) (x : Phase) : (s.closedTaken r x).MonitoringHeld := by
  unfold State.closedTaken
  split
  next m =>
    have hclosed : (s.setCur m.conn (some x)).MonitoringHeld := h.of_frame (by simp)
    cases m.step with
    | making => exact (hclosed.enterSettling m).of_ite (h.concludeMove m _ _ _)
    | fbMake => exact h.concludeMove m _ _ _
    | arming | breakWait | breakSent | breakQuery | gap | fbWait | settling => exact h
  next i t _ => exact h.recoveredOn i x (x == t)
  all_goals exact h

theorem State.MonitoringHeld.closed (h : s.MonitoringHeld) (i : Nat) (x : Phase) (good : Bool) :
    (s.closed i x good).MonitoringHeld := by
  unfold State.closed
  cases s.answered i good with
  | some r => exact h.closedTaken r x
  | none => exact h

theorem State.MonitoringHeld.queryTaken (h : s.MonitoringHeld) (r : Req) (path : Option Phase) :
    (s.queryTaken r path).MonitoringHeld := by
  unfold State.queryTaken
  split
  next m =>
    have hopen : (s.setCur m.conn none).MonitoringHeld := h.of_frame (by simp)
    cases m.step with
    | breakQuery =>
      cases path with
      | some x => exact h.concludeMove m _ _ _
      | none => exact hopen.enterFallback m
    | arming | breakWait | breakSent | gap | making | fbWait | fbMake | settling => exact h
  next i _ =>
    cases path with
    | some x => exact h.recoveredOn i x _
    | none => exact h.recoverDark i
  next i _ => exact h.releaseChecked i _
  next i _ => exact h.inventoryAnswer i _
  all_goals exact h

theorem State.MonitoringHeld.queryAnswer (h : s.MonitoringHeld) (i : Nat) (path : Option Phase) (good : Bool) :
    (s.queryAnswer i path good).MonitoringHeld := by
  unfold State.queryAnswer
  cases s.answered i good with
  | some r => exact h.queryTaken r path
  | none => exact h

/-- The nominal cycles a timeout's row says have passed keep the invariant (R58). -/
theorem State.MonitoringHeld.of_expired {r : Req} (h : s.MonitoringHeld) (he : s.expired = some (r, t)) : t.MonitoringHeld := by
  obtain ⟨q, -, -, -, rfl⟩ := s.expired_some r t he
  exact h.cyclesPass q.left

theorem State.MonitoringHeld.armTimeout (h : s.MonitoringHeld) : s.armTimeout.MonitoringHeld := by
  unfold State.armTimeout
  split
  next he => exact ((h.of_expired he).concludeMove _ _ _ _).of_ite h
  next => exact h

theorem State.MonitoringHeld.breakTimeout (h : s.MonitoringHeld) : s.breakTimeout.MonitoringHeld := by
  unfold State.breakTimeout
  split
  next he => exact ((h.of_expired he).sendBreakQuery _).of_ite h
  next => exact h

theorem State.MonitoringHeld.closedTimeout (h : s.MonitoringHeld) : s.closedTimeout.MonitoringHeld := by
  unfold State.closedTimeout
  split
  next he => exact ((h.of_expired he).refused _).of_ite h
  next => exact h

theorem State.MonitoringHeld.queryTimeout (h : s.MonitoringHeld) : s.queryTimeout.MonitoringHeld := by
  unfold State.queryTimeout
  split
  next he => exact ((h.of_expired he).concludeMove _ _ _ _).of_ite h
  next he => exact State.MonitoringHeld.attemptFailed ((h.of_expired he).of_frame (by simp)) _
  next he => exact (h.of_expired he).releaseChecked _ _
  next he => exact (h.of_expired he).inventoryAnswer _ _
  all_goals exact h

theorem State.MonitoringHeld.gapLimit (h : s.MonitoringHeld) : s.gapLimit.MonitoringHeld := by
  unfold State.gapLimit
  split
  next he => exact ((h.of_expired he).enterFallback _).of_ite h
  next => exact h

theorem State.MonitoringHeld.fallbackWaitLimit (h : s.MonitoringHeld) : s.fallbackWaitLimit.MonitoringHeld := by
  unfold State.fallbackWaitLimit
  split
  next m _ he =>
    cases m.step with
    | fbWait => exact (h.of_expired he).failFallback m
    | arming | breakWait | breakSent | breakQuery | gap | making | fbMake | settling => exact h
  next => exact h

theorem State.MonitoringHeld.recoveryWaitLimit (h : s.MonitoringHeld) : s.recoveryWaitLimit.MonitoringHeld := by
  unfold State.recoveryWaitLimit
  split
  next he => exact (h.of_expired he).attemptFailed _
  next => exact h

theorem State.MonitoringHeld.quietGap (h : s.MonitoringHeld) : s.quietGap.MonitoringHeld := by
  have hcycles (k : Nat) : (if gapCycles ≤ k then s.gapComplete
      else if s.noCycles then s.cyclesPass (gapCycles - k) else s).MonitoringHeld :=
    (h.of_frame (by simp)).of_ite ((h.cyclesPass _).of_ite h)
  unfold State.quietGap
  split
  · exact hcycles _
  · exact hcycles _
  all_goals exact h

theorem State.MonitoringHeld.deferralEnd (h : s.MonitoringHeld) : s.deferralEnd.MonitoringHeld := by
  unfold State.deferralEnd
  split
  · exact (h.of_frame (by simp)).of_ite ((h.cyclesPass _).of_ite h)
  all_goals exact h

/-! ### Reset, loading and the service link (chapters 10 and 11) -/

theorem State.MonitoringHeld.open_of_loaderReading (h : s.MonitoringHeld) (hr : s.loaderReading = true) :
    s.budget.throttled = false := by
  simp only [State.loaderReading, Bool.and_eq_true, beq_iff_eq] at hr
  obtain ⟨hloading, -⟩ := hr
  obtain ⟨hopen, -⟩ := h
  exact hopen (by rw [hloading]; rfl)

/-- The image is taken in LOADING, where the budget is OPEN, so the maximum it brings meets no count (R82, R163). -/
theorem State.MonitoringHeld.imageReadIn (h : s.MonitoringHeld) (image : List Byte) : (s.imageReadIn image).MonitoringHeld := by
  unfold State.imageReadIn
  split
  next hr =>
    have hopen := h.open_of_loaderReading hr
    split
    · exact State.MonitoringHeld.beginInventory (monitoringHeld_of_open (by simpa using hopen))
    · exact monitoringHeld_of_open (by simpa using hopen)
  next => exact h

theorem State.MonitoringHeld.attemptReadFailed (h : s.MonitoringHeld) : s.attemptReadFailed.MonitoringHeld := by
  unfold State.attemptReadFailed
  split
  next hr =>
    have hopen := h.open_of_loaderReading hr
    exact (h.of_frame (by simp)).of_ite (monitoringHeld_of_open (by simpa using hopen))
  next => exact h

theorem State.MonitoringHeld.readRetry (h : s.MonitoringHeld) : s.readRetry.MonitoringHeld :=
  State.MonitoringHeld.of_ite (t := s.beginRead) (h.of_frame rfl) h

theorem State.MonitoringHeld.pornRise (h : s.MonitoringHeld) : s.pornRise.MonitoringHeld :=
  (monitoringHeld_of_open rfl).of_ite h

theorem State.MonitoringHeld.resetnFall (h : s.MonitoringHeld) : s.resetnFall.MonitoringHeld :=
  h.of_ite ((restartEvent_monitoringHeld _).of_ite (h.of_frame (by simp)))

theorem State.MonitoringHeld.resetnRise (h : s.MonitoringHeld) : s.resetnRise.MonitoringHeld := by
  have hhigh : (s.setResetn false).MonitoringHeld := h.of_frame (by simp)
  exact (hhigh.beginInventory.of_ite hhigh).of_ite h

theorem State.MonitoringHeld.responseEnd (h : s.MonitoringHeld) : s.responseEnd.MonitoringHeld := by
  unfold State.responseEnd
  cases s.svc.rx with
  | responding => exact (restartEvent_monitoringHeld s).of_ite (h.of_frame (by simp))
  | idle | receiving | discarding => exact h

theorem State.MonitoringHeld.release (h : s.MonitoringHeld) (i : Nat) : (s.release i).2.MonitoringHeld := by
  unfold State.release
  cases (s.conn i).st with
  | faulted =>
    dsimp only
    split
    · exact h
    · exact State.MonitoringHeld.arbitrate (h.of_frame (by simp))
  | darkLocked => exact State.MonitoringHeld.arbitrate (h.of_frame (by simp))
  | steady | moving | resting | dark | unconfigured => exact h

theorem decideOverride_station_mode (p : List Byte) (s : State) : (decideOverride p s).2.station.mode = s.station.mode := by
  simp only [decideOverride, unlocked]
  (repeat' split) <;> rfl

theorem decideLock_station_mode (p : List Byte) (s : State) : (decideLock p s).2.station.mode = s.station.mode := by
  simp only [decideLock, unlocked]
  (repeat' split) <;> rfl

/-- The decisions a request may have (section 12.4). -/
def decisions : List (List Byte → State → Decision) :=
  [decideStatus, decideReadConnection, decideReadNeighbour, decideReadEvents, decideClearEvents, decideRelease, decideOverride,
    decideLock, decideHold, decideRestart, decideIdent, decideUnknown]

theorem decideKind_mem_decisions (k : Byte) : decideKind k ∈ decisions := decideKind_mem k

theorem State.MonitoringHeld.decision {d : List Byte → State → Decision} (h : s.MonitoringHeld) (hd : d ∈ decisions)
    (p : List Byte) : (d p s).2.MonitoringHeld := by
  simp only [decisions, List.mem_cons, List.not_mem_nil, or_false] at hd
  rcases hd with rfl | rfl | rfl | rfl | rfl | rfl | rfl | rfl | rfl | rfl | rfl | rfl
  · rwa [decideStatus_state]
  · rwa [decideReadConnection_state]
  · rwa [decideReadNeighbour_state]
  · rw [decideReadEvents_state]
    exact h.of_frame (by simp)
  · rw [decideClearEvents_state]
    exact h.of_frame (by simp)
  · rcases decideRelease_state p s with he | ⟨-, -, i, -, -, he⟩ <;> rw [he]
    · exact h
    · exact h.release i
  · rw [decideOverride_state]
    exact h.of_frame (by simp [decideOverride_station_mode])
  · rw [decideLock_state]
    exact h.of_frame (by simp [decideLock_station_mode])
  · rcases decideHold_state p s with he | ⟨-, d, -, -, he⟩ <;> rw [he]
    · exact h
    · exact h.of_frame (by simp)
  · rw [decideRestart_state]
    exact h.of_frame (by simp)
  · rwa [decideIdent_state]
  · rwa [decideUnknown_state]

theorem State.MonitoringHeld.takeRequest {d : List Byte → State → Decision} (h : s.MonitoringHeld) (k : Byte) (p : List Byte)
    (hd : d ∈ decisions) : (s.takeRequest k p d).MonitoringHeld :=
  takeRequest_keeps p s State.MonitoringHeld (fun _ _ ht => ht) (fun _ _ ht => ht) k d h (h.decision hd p)
    fun j q => h.decision (decideKind_mem_decisions j) q

theorem State.MonitoringHeld.takeFrameBytes (h : s.MonitoringHeld) (p : List Byte) : (s.takeFrameBytes p).MonitoringHeld :=
  takeFrameBytes_keeps p s State.MonitoringHeld (fun _ _ ht => ht) (fun _ _ ht => ht) h
    fun j q => h.decision (decideKind_mem_decisions j) q

/-! ### Every command, and every step -/

theorem State.MonitoringHeld.of_next {u : State} (h : u.MonitoringHeld)
    (he : (Host.Outcome.next u : Host.Outcome State Fault Refusal) = .next t) : t.MonitoringHeld := by
  cases he
  exact h

/-- A command keeps the monitoring invariant in a sound state: the soundness has a READY find its move in a working mode. -/
theorem State.MonitoringHeld.of_exec {c : Instr} (h : s.MonitoringHeld) (hs : s.Sound) (he : exec c s = .next t) :
    t.MonitoringHeld := by
  cases c with
  | powerOnReset => exact of_next (monitoringHeld_of_open rfl) he
  | pornRise => exact of_next h.pornRise he
  | readAttemptSuccess image => exact of_next (h.of_powered (h.imageReadIn image)) he
  | readAttemptFailure | busHeldLowTimeout => exact of_next (h.of_powered h.attemptReadFailed) he
  | readRetryWaitExpiry => exact of_next (h.of_powered h.readRetry) he
  | resetnFall => exact of_next h.resetnFall he
  | resetnRise => exact of_next h.resetnRise he
  | crossing p e => exact of_next ((h.of_frame (by simp)).of_ite (h.crossing p e)) he
  | secondsTick => exact of_next (h.of_powered h.secondsTick) he
  | crossingWatchExpiry p => exact of_next (h.of_powered ((h.phaseLoss p).of_ite h)) he
  | dataReady | recordAbandoned | dwellEnd | peerHoldEnd | transmissionComplete | holdRemainingEnd | evaluationTimerExpiry
  | reportTimerExpiry | announceLimitExpiry | ownLifetimeExpiry | serviceByteGap | overrun | droppedFrameEnd =>
    exact of_next (h.of_powered (h.of_frame (by simp))) he
  | acceptedRecord readings volts =>
    refine of_next (h.of_powered ?_) he
    split
    · exact h.acceptRecord _ readings volts
    · exact h
  | measurementStale => exact of_next (h.of_powered h.ageEnd) he
  | recoveryRetryDue i => exact of_next (h.of_powered (h.arbitrate.of_ite h)) he
  | ready i path good => exact of_next (h.of_powered (h.ready hs i path good)) he
  | notReady i good => exact of_next (h.of_powered (h.notReady i good)) he
  | opened i good => exact of_next (h.of_powered (h.opened i good)) he
  | nak i good => exact of_next (h.of_powered (h.nak i good)) he
  | closed i p good => exact of_next (h.of_powered (h.closed i p good)) he
  | queryAnswer i path good => exact of_next (h.of_powered (h.queryAnswer i path good)) he
  | armTimeout => exact of_next (h.of_powered h.armTimeout) he
  | breakTimeout => exact of_next (h.of_powered h.breakTimeout) he
  | closedTimeout => exact of_next (h.of_powered h.closedTimeout) he
  | queryTimeout => exact of_next (h.of_powered h.queryTimeout) he
  | gapLimit => exact of_next (h.of_powered h.gapLimit) he
  | fallbackWaitLimit => exact of_next (h.of_powered h.fallbackWaitLimit) he
  | recoveryWaitLimit => exact of_next (h.of_powered h.recoveryWaitLimit) he
  | samplingWindowEnd => exact of_next (h.of_powered (h.of_within (Budget.samplingEnd_within _ _) rfl rfl rfl)) he
  | monitoringWindowEnd => exact of_next (h.of_powered (h.of_within (Budget.monitoringEnd_within _ _) rfl rfl rfl)) he
  | throttleExpiry => exact of_next (h.of_powered (h.of_within (Budget.throttleEnd_within _) rfl rfl rfl)) he
  | lcdActive | lcdInactive => exact of_next ((h.of_frame (by simp)).of_ite (h.of_frame (by simp))) he
  | loadFrame bytes | intentFrame bytes | outcomeFrame bytes | holdFrame bytes | discardedFrame bytes =>
    exact of_next (h.of_powered (h.receiveFrame bytes)) he
  | staleAge slot => exact of_next (h.of_powered (h.staleAge slot)) he
  | forgetAge slot => exact of_next (h.of_powered (h.forgetAge slot)) he
  | intentLifetimeEnd slot => exact of_next (h.of_powered (h.intentLifetimeEnd slot)) he
  | quietGap => exact of_next (h.of_powered h.quietGap) he
  | deferralEnd => exact of_next (h.of_powered h.deferralEnd) he
  | listenTimerExpiry => exact of_next (h.of_powered h.listenExpiry) he
  | ownHoldEnd => exact of_next (h.of_powered h) he
  | listenOnlyTimerExpiry => exact of_next (h.of_powered h.listenOnlyExpiry) he
  | status p | readConnection p | readNeighbour p | readEvents p | clearEvents p | release p | override p | lock p | hold p
  | restart p | ident p =>
    exact of_next (h.of_powered (h.takeRequest _ p (by simp [decisions]))) he
  | unknownRequestKind kind p => exact of_next (h.of_powered (h.takeRequest kind p (decideKind_mem_decisions kind))) he
  | malformedFrame bytes => exact of_next (h.of_powered (h.takeFrameBytes bytes)) he
  | responseEnd => exact of_next (h.of_powered h.responseEnd) he

theorem State.MonitoringHeld.idle (h : s.MonitoringHeld) : s.idle.MonitoringHeld := h.of_powered ((h.cyclesPass 1).of_ite h)

theorem State.MonitoringHeld.of_step (h : s.MonitoringHeld) (hs : s.Sound) (he : step s = .next t) : t.MonitoringHeld := by
  unfold step at he
  cases hp : s.pending with
  | nil =>
    rw [hp] at he
    exact of_next h.idle he
  | cons c rest =>
    rw [hp] at he
    exact State.MonitoringHeld.of_exec (s := { s with pending := rest }) h hs he

end Sys2Proof.Machine

namespace Sys2Proof.Proofs

open Sys2Proof.Machine

/-- Settles O32: the allowance in its two budget states, the bound of plan building, the taking of a plan move, and the step lemma of the
monitoring maximum. -/
theorem allowanceLimitsBalancingStarts : Obligations.AllowanceLimitsBalancingStarts := by
  refine ⟨fun s => ⟨allowance_of_open, fun ht => ?_, length_buildPlan_le s, fun h0 => ?_, takePlanMove_of_no_allowance⟩,
    fun s t hs h he => h.of_step hs he⟩
  · rw [allowance_of_throttled ht]
    omega
  · have hlen := length_buildPlan_le s
    rw [h0, Nat.min_zero] at hlen
    exact List.eq_nil_of_length_eq_zero (Nat.le_zero.mp hlen)

end Sys2Proof.Proofs


/-! The timebase and the phases stay sound: what a change of phase or of counter keeps of PhasesSound (R2 to R8), and the step
lemma assembled from it. Every operation that leaves the timebase and the phases as they are keeps it by its frame. -/

namespace Sys2Proof.Machine

variable {s t : State}

/-! ### Triples -/

@[simp] theorem Ph3.get_set_self {α : Type} (v : Ph3 α) (p : Phase) (x : α) : (v.set p x).get p = x := by
  cases p <;> rfl

theorem Ph3.get_set {α : Type} (v : Ph3 α) (p q : Phase) (x : α) : (v.set p x).get q = if p = q then x else v.get q := by
  split
  next h => rw [h, Ph3.get_set_self]
  next h => exact Ph3.get_set_of_ne h v x

/-! ### What the invariant looks at -/

theorem chosenRef_congr (h : ∀ p, t.present p = s.present p) : t.chosenRef = s.chosenRef := by
  simp only [State.chosenRef, h]

theorem State.PhasesSound.of_frame (h : s.PhasesSound) (ht : t.time = s.time) (hp : t.phases = s.phases) : t.PhasesSound := by
  have hpresent : ∀ p, t.present p = s.present p := fun p => by rw [State.present, State.present, hp]
  simpa only [State.PhasesSound, chosenRef_congr hpresent, hpresent, ht, hp] using h

theorem State.PhasesSound.of_ite {c : Prop} [Decidable c] {u : State} (ht : t.PhasesSound) (hu : u.PhasesSound) :
    (if c then t else u).PhasesSound := by
  split
  · exact ht
  · exact hu

theorem State.PhasesSound.of_powered {f : State → State} (h : s.PhasesSound) (hf : (f s).PhasesSound) :
    (powered f s).PhasesSound := h.of_ite hf

/-- The part of the invariant that speaks of the phases alone (R6, R8). -/
def State.WatchesSound (s : State) : Prop := ∀ p, (s.phases.get p).watch = s.present p ∧ (s.phases.get p).returns < 2

/-- A change of one phase that times its watch by its presence and leaves a return count below 2. -/
theorem State.WatchesSound.modPhase {f : PhaseSup → PhaseSup} {p : Phase} (h : s.WatchesSound)
    (hw : (f (s.phases.get p)).watch = (f (s.phases.get p)).present) (hr : (f (s.phases.get p)).returns < 2) :
    (s.modPhase p f).WatchesSound := by
  intro q
  simp only [State.present, State.modPhase_phases, Ph3.get_set]
  split
  · exact ⟨hw, hr⟩
  · exact h q

theorem State.PhasesSound.watchesSound (h : s.PhasesSound) : s.WatchesSound := h.2.2.2

/-- A change of one phase that keeps its presence keeps the reference chosen. -/
theorem State.PhasesSound.modPhase {f : PhaseSup → PhaseSup} {p : Phase} (h : s.PhasesSound)
    (hp : (f (s.phases.get p)).present = s.present p) (hw : (f (s.phases.get p)).watch = s.present p)
    (hr : (f (s.phases.get p)).returns < 2) : (s.modPhase p f).PhasesSound := by
  have hpresent : ∀ q, (s.modPhase p f).present q = s.present q := by
    intro q
    simp only [State.present, State.modPhase_phases, Ph3.get_set]
    split
    next hq => rw [hp, ← hq, State.present]
    next => rfl
  obtain ⟨href, hsource, hcounter, hwatch⟩ := h
  refine ⟨?_, hsource, hcounter, State.WatchesSound.modPhase hwatch (hw.trans hp.symm) hr⟩
  rw [chosenRef_congr hpresent]
  exact href

/-! ### The reference chosen again, and the counter (R2 to R5) -/

/-- Choosing the reference again makes the timebase sound whatever the phases have become (R4, R5). -/
theorem chooseRef_phasesSound (hw : s.WatchesSound) (hs : s.time.source = .mains → s.time.ref ≠ none ∧ s.time.aligned = true)
    (hc : s.time.aligned = false → s.time.counter = 0) : s.chooseRef.PhasesSound := by
  simp only [State.chooseRef]
  split
  next hsame => exact ⟨hsame.symm, hs, hc, hw⟩
  next =>
    split
    next hnone => exact ⟨hnone.symm, fun h => (nomatch h), hc, hw⟩
    next x hsome => exact ⟨rfl, fun h => ⟨by simp [hsome], (hs h).2⟩, hc, hw⟩

theorem State.PhasesSound.chooseRef_modPhase {f : PhaseSup → PhaseSup} {p : Phase} (h : s.PhasesSound) (g : Flag)
    (hw : (f (s.phases.get p)).watch = (f (s.phases.get p)).present) (hr : (f (s.phases.get p)).returns < 2) :
    ((s.modPhase p f).setFlag g).chooseRef.PhasesSound := by
  obtain ⟨-, hsource, hcounter, hwatch⟩ := h
  exact chooseRef_phasesSound (s := (s.modPhase p f).setFlag g) (State.WatchesSound.modPhase hwatch hw hr) hsource hcounter

/-- A change of the timebase that keeps the reference, and whose count is aligned where it counts. -/
theorem State.PhasesSound.modTime {f : Time → Time} (h : s.PhasesSound) (hr : (f s.time).ref = s.time.ref)
    (hs : (f s.time).source = .mains → (f s.time).ref ≠ none ∧ (f s.time).aligned = true)
    (hc : (f s.time).aligned = false → (f s.time).counter = 0) : (s.modTime f).PhasesSound :=
  ⟨hr.trans h.1, hs, hc, h.watchesSound⟩

theorem State.PhasesSound.referenceCrossing {p : Phase} (h : s.PhasesSound) (hr : s.time.ref = some p) :
    (s.referenceCrossing p).PhasesSound := by
  have href : s.time.ref ≠ none := by simp [hr]
  obtain ⟨-, hsource, hcounter, -⟩ := id h
  unfold State.referenceCrossing
  split
  next => exact h.modTime rfl (fun _ => ⟨href, rfl⟩) (fun hf => absurd hf (by simp [Time.crossed]))
  next haligned =>
    have haligned : s.time.aligned = true := by simpa using haligned
    split
    · exact h.modTime rfl hsource hcounter
    · have hcounted : (s.modTime fun t => (t.counted s.conf.mains).crossed p true).PhasesSound := by
        refine h.modTime ?_ (fun _ => ?_) (fun hf => ?_) <;> simp only [Time.counted, Time.crossed] at * <;>
          (repeat' split at *) <;> simp_all
      exact hcounted.of_frame (by simp) (by simp)

theorem State.PhasesSound.engineCrossing (h : s.PhasesSound) (p : Phase) : (s.engineCrossing p).PhasesSound :=
  h.of_frame (by simp) (by simp)

theorem State.PhasesSound.crossing (h : s.PhasesSound) (p : Phase) (e : Edge) : (s.crossing p e).PhasesSound := by
  have hmarked : ({ s with pins := { s.pins with zc := s.pins.zc.set p (e == Edge.positive) } }.modPhase p fun x =>
      { x with mark := true, watch := x.present }).PhasesSound := by
    refine State.PhasesSound.modPhase (h.of_frame rfl rfl) rfl rfl ?_
    exact (h.watchesSound p).2
  simp only [State.crossing]
  refine State.PhasesSound.engineCrossing (.of_ite ?_ hmarked) p
  split
  next href => exact hmarked.referenceCrossing href
  next => exact hmarked.modTime rfl hmarked.2.1 hmarked.2.2.1

/-! ### Phase events, records and ticks -/

theorem State.PhasesSound.phaseLoss (h : s.PhasesSound) (p : Phase) : (s.phaseLoss p).PhasesSound := by
  have hlost : ((s.modPhase p fun x => { x with present := false, watch := false, returns := 0 }).setFlag
      .phaseLost).chooseRef.PhasesSound := h.chooseRef_modPhase _ rfl (by simp)
  simp only [State.phaseLoss]
  exact .of_ite (.of_ite (hlost.of_frame (by simp) (by simp)) (hlost.of_frame (by simp) (by simp)))
    (hlost.of_frame (by simp) (by simp))

theorem State.PhasesSound.phaseReturn (h : s.PhasesSound) (p : Phase) : (s.phaseReturn p).PhasesSound := by
  have hback : ((s.modPhase p fun x => { x with present := true, watch := true, returns := 0 }).setFlag
      .phaseReturned).chooseRef.PhasesSound := h.chooseRef_modPhase _ rfl (by simp)
  simp only [State.phaseReturn]
  split
  · exact hback.of_frame (by simp) (by simp)
  · exact .of_ite (hback.of_frame (by simp) (by simp)) (hback.of_frame (by simp) (by simp))
  all_goals exact hback.of_frame (by simp) (by simp)

theorem State.PhasesSound.examine (h : s.PhasesSound) (volts : Ph3 Nat) (p : Phase) : (s.examine volts p).PhasesSound := by
  simp only [State.examine]
  refine .of_ite ((h.phaseLoss p).of_ite h) ?_
  split
  next => exact h.phaseReturn p
  next hn => exact h.modPhase rfl (h.watchesSound p).1 (Nat.not_le.mp hn)

theorem State.PhasesSound.supervise (h : s.PhasesSound) (volts : Ph3 Nat) : (s.supervise volts).PhasesSound := by
  have hexamined : (Phase.all.foldl (State.examine volts) s).PhasesSound :=
    List.foldlRecOn (motive := State.PhasesSound) Phase.all (State.examine volts) h fun _ ht p _ => ht.examine volts p
  obtain ⟨href, hsource, hcounter, hwatch⟩ := hexamined
  have hpresent : ∀ p, (s.supervise volts).present p = (Phase.all.foldl (State.examine volts) s).present p := by
    intro p
    simp [State.supervise, State.present]
  refine ⟨?_, hsource, hcounter, fun p => ?_⟩
  · rw [chosenRef_congr hpresent]
    exact href
  · rw [hpresent]
    simpa [State.supervise] using hwatch p

theorem State.PhasesSound.acceptRecord (h : s.PhasesSound) (w : Byte) (rs : List Reading) (volts : Ph3 Nat) :
    (s.acceptRecord w rs volts).PhasesSound := by
  have htaken : ((s.recordTaken w rs).freshen).PhasesSound := h.of_frame (by simp) (by simp)
  exact (htaken.supervise volts).of_frame (by simp [State.acceptRecord]) (by simp [State.acceptRecord])

theorem State.PhasesSound.secondsTick (h : s.PhasesSound) : s.secondsTick.PhasesSound := by
  have hsecond {t : State} (ht : t.PhasesSound) : t.second.PhasesSound := ht.of_frame (by simp) (by simp)
  refine .of_ite (hsecond (h.modTime rfl h.2.1 h.2.2.1)) ?_
  cases s.time.source with
  | holdover => exact hsecond h
  | mains => exact h

/-! ### Restart and reset -/

/-- A restart leaves the counter unaligned at 0 under HOLDOVER, and keeps the phases and the reference (R175). -/
theorem State.PhasesSound.restartEvent (h : s.PhasesSound) : s.restartEvent.PhasesSound := by
  have hrestarted : { s with time := { Time.initial with ref := s.time.ref } }.PhasesSound :=
    ⟨h.1, fun hs => (nomatch hs), fun _ => rfl, h.watchesSound⟩
  exact hrestarted.of_frame (by simp [State.restartEvent]) (by simp)

theorem powerOn_phasesSound (s : State) : s.powerOn.PhasesSound :=
  ⟨rfl, fun hs => (nomatch hs), fun _ => rfl, fun p => by cases p <;> exact ⟨rfl, Nat.zero_lt_two⟩⟩

theorem State.PhasesSound.pornRise (h : s.PhasesSound) : s.pornRise.PhasesSound := by
  unfold State.pornRise
  split
  · exact (powerOn_phasesSound s).of_frame rfl rfl
  · exact h

theorem State.PhasesSound.resetnFall (h : s.PhasesSound) : s.resetnFall.PhasesSound := by
  have hlow : (s.setResetn true).PhasesSound := h.of_frame rfl rfl
  exact h.of_ite (hlow.restartEvent.of_ite hlow)

theorem State.PhasesSound.responseEnd (h : s.PhasesSound) : s.responseEnd.PhasesSound := by
  unfold State.responseEnd
  cases s.svc.rx with
  | responding => exact h.restartEvent.of_ite (h.of_frame rfl rfl)
  | idle | receiving | discarding => exact h

/-! ### The service link -/

/-- What a decision of the service link may do to the state: change flags, the service link, the overrides and whether they are open; release a
configured connection; or issue an own hold in ACTIVE. -/
theorem decision_cases {d : List Byte → State → Decision} (hd : d ∈ decisions) (p : List Byte) (s : State) :
    (∃ fl v b l, (d p s).2
        = { s with flags := fl, svc := v, station := { s.station with overridesOpen := b, overrides := l } })
      ∨ (s.mode.working = true ∧ s.mode ≠ .inventory
          ∧ ∃ i, i < 32 ∧ s.configured i = true ∧ (d p s).2 = (s.release i).2)
      ∨ (s.isActive = true ∧ ∃ n, 10 ≤ n ∧ n ≤ 600 ∧ (d p s).2 = s.issueHold n .service) := by
  simp only [decisions, List.mem_cons, List.not_mem_nil, or_false] at hd
  rcases hd with rfl | rfl | rfl | rfl | rfl | rfl | rfl | rfl | rfl | rfl | rfl | rfl
  · exact .inl ⟨_, _, _, _, decideStatus_state p s⟩
  · exact .inl ⟨_, _, _, _, decideReadConnection_state p s⟩
  · exact .inl ⟨_, _, _, _, decideReadNeighbour_state p s⟩
  · exact .inl ⟨_, _, _, _, decideReadEvents_state p s⟩
  · exact .inl ⟨_, _, _, _, decideClearEvents_state p s⟩
  · rcases decideRelease_state p s with he | hr
    · exact .inl ⟨_, _, _, _, he⟩
    · exact .inr (.inl hr)
  · refine .inl ?_
    simp only [decideOverride, unlocked]
    (repeat' split) <;> exact ⟨_, _, _, _, rfl⟩
  · refine .inl ?_
    simp only [decideLock, unlocked]
    (repeat' split) <;> exact ⟨_, _, _, _, rfl⟩
  · rcases decideHold_state p s with he | hh
    · exact .inl ⟨_, _, _, _, he⟩
    · exact .inr (.inr hh)
  · exact .inl ⟨_, _, _, _, decideRestart_state p s⟩
  · exact .inl ⟨_, _, _, _, decideIdent_state p s⟩
  · exact .inl ⟨_, _, _, _, decideUnknown_state p s⟩

/-- What a release may do: nothing, or change the record and have the arbiter look. -/
theorem release_state (i : Nat) (s : State) :
    (s.release i).2 = s ∨ ∃ f, (s.release i).2 = (s.modConn i f).arbitrate := by
  unfold State.release
  cases (s.conn i).st with
  | faulted =>
    dsimp only
    split
    · exact .inl rfl
    · exact .inr ⟨_, rfl⟩
  | darkLocked => exact .inr ⟨_, rfl⟩
  | steady | moving | resting | dark | unconfigured => exact .inl rfl

theorem State.PhasesSound.decision {d : List Byte → State → Decision} (h : s.PhasesSound) (hd : d ∈ decisions) (p : List Byte) :
    (d p s).2.PhasesSound := by
  rcases decision_cases hd p s with ⟨fl, v, b, l, he⟩ | ⟨-, -, i, -, -, he⟩ | ⟨-, n, -, -, he⟩ <;> rw [he]
  · exact h.of_frame rfl rfl
  · rcases release_state i s with hr | ⟨f, hr⟩ <;> rw [hr]
    · exact h
    · exact h.of_frame (by simp) (by simp)
  · exact h.of_frame (by simp) (by simp)

theorem State.PhasesSound.takeRequest {d : List Byte → State → Decision} (h : s.PhasesSound) (k : Byte) (p : List Byte)
    (hd : d ∈ decisions) : (s.takeRequest k p d).PhasesSound :=
  takeRequest_keeps p s State.PhasesSound (fun _ _ ht => ht) (fun _ _ ht => ht) k d h (h.decision hd p)
    fun j q => h.decision (decideKind_mem_decisions j) q

theorem State.PhasesSound.takeFrameBytes (h : s.PhasesSound) (p : List Byte) : (s.takeFrameBytes p).PhasesSound :=
  takeFrameBytes_keeps p s State.PhasesSound (fun _ _ ht => ht) (fun _ _ ht => ht) h
    fun j q => h.decision (decideKind_mem_decisions j) q

/-! ### Every command, and every step -/

theorem State.PhasesSound.of_next {u : State} (h : u.PhasesSound)
    (he : (Host.Outcome.next u : Host.Outcome State Fault Refusal) = .next t) : t.PhasesSound := by
  cases he
  exact h

theorem State.PhasesSound.of_exec {c : Instr} (h : s.PhasesSound) (he : exec c s = .next t) : t.PhasesSound := by
  cases c with
  | powerOnReset => exact of_next (powerOn_phasesSound s) he
  | pornRise => exact of_next h.pornRise he
  | resetnFall => exact of_next h.resetnFall he
  | resetnRise => exact of_next (h.of_frame (by simp) (by simp)) he
  | crossing p e => exact of_next ((h.of_frame (by simp) (by simp)).of_ite (h.crossing p e)) he
  | secondsTick => exact of_next (h.of_powered h.secondsTick) he
  | crossingWatchExpiry p => exact of_next (h.of_powered ((h.phaseLoss p).of_ite h)) he
  | acceptedRecord readings volts =>
    refine of_next (h.of_powered ?_) he
    split
    · exact h.acceptRecord _ readings volts
    · exact h
  | recoveryRetryDue i => exact of_next (h.of_powered ((h.of_frame (by simp) (by simp)).of_ite h)) he
  | lcdActive | lcdInactive => exact of_next ((h.of_frame (by simp) (by simp)).of_ite (h.of_frame (by simp) (by simp))) he
  | status p | readConnection p | readNeighbour p | readEvents p | clearEvents p | release p | override p | lock p | hold p
  | restart p | ident p =>
    exact of_next (h.of_powered (h.takeRequest _ p (by simp [decisions]))) he
  | unknownRequestKind kind p => exact of_next (h.of_powered (h.takeRequest kind p (decideKind_mem_decisions kind))) he
  | malformedFrame bytes => exact of_next (h.of_powered (h.takeFrameBytes bytes)) he
  | responseEnd => exact of_next (h.of_powered h.responseEnd) he
  | _ => exact of_next (h.of_powered (h.of_frame (by simp) (by simp))) he

theorem State.PhasesSound.of_step (h : s.PhasesSound) (he : step s = .next t) : t.PhasesSound := by
  unfold step at he
  cases hp : s.pending with
  | nil =>
    rw [hp] at he
    exact of_next (h.of_frame (by simp) (by simp)) he
  | cons c rest =>
    rw [hp] at he
    exact State.PhasesSound.of_exec (s := { s with pending := rest }) h he

end Sys2Proof.Machine

namespace Sys2Proof.Proofs

open Sys2Proof.Machine

/-- Settles O59: the timebase and the phases are sound after every step from a state in which they are. -/
theorem stepKeepsPhasesSound : Obligations.StepKeepsPhasesSound := fun _ _ h he => h.of_step he

end Sys2Proof.Proofs


/-! The neighbour table stays sound: slots and entries, what storing a frame and a second make of an entry, and the step lemma
(R100, R109 to R121). Every operation that leaves the table and the configuration as they are, and does not leave the working modes,
keeps it by its frame. -/

namespace Sys2Proof.Machine

variable {s t : State}

/-! ### Slots -/

theorem slot_setSlot (k j : Nat) (e : Option Entry) (s : State) :
    (s.setSlot k e).slot j = if k = j ∧ k < s.nbrs.length then e else s.slot j := by
  simp only [State.slot, State.setSlot_nbrs, List.getD_eq_getElem?_getD, List.getElem?_set]
  by_cases hk : k = j
  · subst hk
    by_cases hl : k < s.nbrs.length <;> simp [hl]
  · simp [hk]

theorem addrAt_setSlot (k j : Nat) (e : Option Entry) (s : State) :
    (s.setSlot k e).addrAt j = if k = j ∧ k < s.nbrs.length then e.map (·.addr) else s.addrAt j := by
  simp only [State.addrAt, slot_setSlot]
  split <;> rfl

/-- A slot that a search of the table finds: it is one of the sixteen, and holds what was looked for. -/
theorem slot_of_findIdx? {p : Option Entry → Bool} {k : Nat} (h : s.nbrs.findIdx? p = some k) :
    k < s.nbrs.length ∧ p (s.slot k) = true := by
  obtain ⟨hk, hp, -⟩ := List.findIdx?_eq_some_iff_getElem.mp h
  exact ⟨hk, by simpa [State.slot, List.getD_eq_getElem?_getD, hk] using hp⟩

theorem slot_of_findIdx?_none {p : Option Entry → Bool} (h : s.nbrs.findIdx? p = none) {e : Entry} {j : Nat}
    (he : s.slot j = some e) : p (some e) = false := by
  rw [List.findIdx?_eq_none_iff] at h
  refine h _ ?_
  rw [State.slot, List.getD_eq_getElem?_getD] at he
  cases hj : s.nbrs[j]? with
  | none => simp [hj] at he
  | some x =>
    obtain rfl : x = some e := by simpa [hj] using he
    exact List.mem_of_getElem? hj

theorem addrAt_of_slotOf {addr k : Nat} (h : s.slotOf addr = some k) : k < s.nbrs.length ∧ s.addrAt k = some addr := by
  obtain ⟨hk, he⟩ := slot_of_findIdx? h
  refine ⟨hk, ?_⟩
  obtain ⟨e, hslot, ha⟩ := Option.any_eq_true_iff_get .. |>.mp he |> fun ⟨hs, hg⟩ => (⟨_, (Option.some_get hs).symm, hg⟩ :
    ∃ e, s.slot k = some e ∧ (e.addr == addr) = true)
  simpa [State.addrAt, hslot] using ha

theorem addrAt_ne_of_slotOf_none {addr : Nat} (h : s.slotOf addr = none) (j : Nat) : s.addrAt j ≠ some addr := by
  intro hj
  obtain ⟨e, he, ha⟩ := Option.map_eq_some_iff.mp hj
  have := slot_of_findIdx?_none h he
  simp [ha] at this

/-! ### What the invariant looks at -/

theorem State.TableSound.of_frame (h : s.TableSound) (hn : t.nbrs = s.nbrs) (hc : t.cfg = s.cfg)
    (hw : s.mode.working = true → t.mode.working = true) : t.TableSound := by
  have hconf : t.conf = s.conf := by rw [State.conf, State.conf, hc]
  obtain ⟨hlen, hdistinct, haddr, hentry, hreport⟩ := h
  simp only [State.TableSound, State.addrAt, State.slot, State.entrySound, State.forgetAfter, State.staleAfter, hn, hconf]
  exact ⟨hlen, hdistinct, fun k a ha => ⟨hw (haddr k a ha).1, (haddr k a ha).2⟩, hentry, hreport⟩

theorem State.TableSound.of_frame_station (h : s.TableSound) (hn : t.nbrs = s.nbrs) (hc : t.cfg = s.cfg)
    (hm : t.station = s.station) : t.TableSound :=
  h.of_frame hn hc fun hw => by rwa [State.mode, hm]

theorem State.TableSound.of_ite {c : Prop} [Decidable c] {u : State} (ht : t.TableSound) (hu : u.TableSound) :
    (if c then t else u).TableSound := by
  split
  · exact ht
  · exact hu

theorem State.TableSound.of_powered {f : State → State} (h : s.TableSound) (hf : (f s).TableSound) :
    (powered f s).TableSound := h.of_ite hf

theorem State.TableSound.enterMode {m : Mode} (h : s.TableSound) (hm : m.working = true) (n : Option Nat) :
    (s.enterMode m n).TableSound := h.of_frame rfl rfl fun _ => hm

/-- A table without entries is sound where the report interval is not 0. -/
theorem tableSound_of_empty (hn : s.nbrs = List.replicate 16 none) (hr : 1 ≤ s.conf.report) : s.TableSound := by
  have hslot : ∀ k, s.slot k = none := by
    intro k
    rw [State.slot, hn, List.getD_eq_getElem?_getD, List.getElem?_replicate]
    split <;> rfl
  refine ⟨by simp [hn], ?_, ?_, ?_, hr⟩
  · intro j k a hj
    simp [State.addrAt, hslot] at hj
  · intro k a hk
    simp [State.addrAt, hslot] at hk
  · intro k e hk
    simp [hslot] at hk

/-- A slot is emptied. -/
theorem State.TableSound.setSlot_none (h : s.TableSound) (k : Nat) : (s.setSlot k none).TableSound := by
  obtain ⟨hlen, hdistinct, haddr, hentry, hreport⟩ := h
  have hat : ∀ j a, (s.setSlot k none).addrAt j = some a → s.addrAt j = some a := by
    intro j a hj
    rw [addrAt_setSlot] at hj
    split at hj
    · cases hj
    · exact hj
  refine ⟨by simpa using hlen, fun i j a hi hj => hdistinct i j a (hat i a hi) (hat j a hj), fun j a hj => haddr j a (hat j a hj),
    fun j e hj => ?_, hreport⟩
  rw [slot_setSlot] at hj
  split at hj
  · cases hj
  · exact hentry j e hj

/-- A sound entry takes a slot, under an address no other slot holds. -/
theorem State.TableSound.setSlot_some {e : Entry} {k : Nat} (h : s.TableSound) (hw : s.mode.working = true)
    (ha : e.addr ≠ s.conf.address) (hother : ∀ j, j ≠ k → s.addrAt j ≠ some e.addr) (he : s.entrySound e) :
    (s.setSlot k (some e)).TableSound := by
  obtain ⟨hlen, hdistinct, haddr, hentry, hreport⟩ := h
  refine ⟨by simpa using hlen, fun i j a hi hj => ?_, fun j a hj => ?_, fun j x hj => ?_, hreport⟩
  · rw [addrAt_setSlot] at hi hj
    split at hi <;> split at hj
    next hik hjk => exact hik.1.symm.trans hjk.1
    next hik hjk =>
      cases hi
      exact Classical.byContradiction fun hne => hother j (fun hjk' => hne (hik.1.symm.trans hjk'.symm)) hj
    next hik hjk =>
      cases hj
      exact Classical.byContradiction fun hne => hother i (fun hik' => hne (hik'.trans hjk.1)) hi
    next => exact hdistinct i j a hi hj
  · rw [addrAt_setSlot] at hj
    split at hj
    · cases hj
      exact ⟨hw, ha⟩
    · exact haddr j a hj
  · rw [slot_setSlot] at hj
    split at hj
    · cases hj
      exact he
    · exact hentry j x hj

/-- An entry changes under its own address. -/
theorem State.TableSound.replace {e x : Entry} {k : Nat} (h : s.TableSound) (hk : s.slot k = some x) (ha : e.addr = x.addr)
    (he : s.entrySound e) : (s.setSlot k (some e)).TableSound := by
  obtain ⟨-, hdistinct, haddr, -, -⟩ := id h
  have hat : s.addrAt k = some e.addr := by simp [State.addrAt, hk, ha]
  exact h.setSlot_some (haddr k _ hat).1 (haddr k _ hat).2 (fun j hj hje => hj (hdistinct j k _ hje hat)) he

/-! ### Entries: going STALE, a second, and storing a frame (sections 7.1 to 7.5) -/

theorem entrySound_staled {e : Entry} (h : s.entrySound e) : s.entrySound e.staled := by
  obtain ⟨hage, -⟩ := h
  exact ⟨hage, fun hf => (nomatch hf), fun _ => ⟨rfl, rfl, rfl, rfl⟩, fun _ hi => (nomatch hi), fun _ hh => (nomatch hh)⟩

/-- What a second leaves of a sound entry is sound, under its address: the second takes every end it brings (R118 to R121). -/
theorem entrySound_second {e x : Entry} (h : s.entrySound e) (hx : e.second s.staleAfter s.forgetAfter = some x) :
    s.entrySound x ∧ x.addr = e.addr := by
  obtain ⟨-, -, hstale, hintent, hhold⟩ := h
  simp only [Entry.second] at hx
  split at hx
  · cases hx
  next hforget =>
    have hforget := Nat.not_le.mp hforget
    split at hx
    next hfresh =>
      split at hx <;> cases hx
      next => exact ⟨⟨hforget, fun hf => (nomatch hf), fun _ => ⟨rfl, rfl, rfl, rfl⟩, fun _ hi => (nomatch hi), fun _ hh => (nomatch hh)⟩, rfl⟩
      next hyoung =>
        refine ⟨⟨hforget, fun _ => Nat.not_le.mp hyoung, fun hf => absurd (hfresh.symm.trans hf) (by simp), fun i hi => ?_,
          fun d hd => ?_⟩, rfl⟩
        · obtain ⟨j, hj, hij⟩ := Option.bind_eq_some_iff.mp hi
          have := hintent j hj
          simp only [PIntent.second] at hij
          split at hij <;> cases hij
          dsimp only
          omega
        · obtain ⟨c, hc, hdc⟩ := Option.bind_eq_some_iff.mp hd
          have := hhold c hc
          simp only [PHold.second] at hdc
          split at hdc <;> cases hdc
          dsimp only
          omega
    next hfresh =>
      cases hx
      exact ⟨⟨hforget, fun hf => absurd hf hfresh, hstale, hintent, hhold⟩, rfl⟩

/-- The times a frame brings into the table lie in their ranges (R99). -/
def Frame.timesOk : Frame → Prop
  | .intent b => 1 ≤ b.life ∧ b.life ≤ 60
  | .hold b => 1 ≤ b.dur ∧ b.dur ≤ 600
  | .load _ | .outcome _ => True

theorem readBody_timesOk {kind : Byte} {body : List Byte} {f : Frame} (h : readBody kind body = some f) : f.timesOk := by
  unfold readBody at h
  split at h
  · obtain ⟨b, -, rfl⟩ := Option.map_eq_some_iff.mp h
    trivial
  split at h
  · obtain ⟨b, hb, rfl⟩ := Option.map_eq_some_iff.mp h
    unfold readIntent at hb
    split at hb
    · split at hb
      · split at hb
        next hr =>
          cases hb
          simp only [Bool.and_eq_true, decide_eq_true_eq] at hr
          exact ⟨by dsimp only; omega, hr.2⟩
        · cases hb
      · cases hb
    · cases hb
  split at h
  · obtain ⟨b, -, rfl⟩ := Option.map_eq_some_iff.mp h
    trivial
  split at h
  · obtain ⟨b, hb, rfl⟩ := Option.map_eq_some_iff.mp h
    unfold readHold at hb
    split at hb
    · split at hb
      · split at hb
        next hr =>
          cases hb
          simpa [Frame.timesOk] using hr
        · cases hb
      · cases hb
    · cases hb
  · cases h

theorem validateFrame_timesOk {feeder : Word16} {l : List Byte} {addr : Nat} {f : Frame}
    (h : validateFrame feeder l = some (addr, f)) : f.timesOk := by
  unfold validateFrame at h
  split at h
  · split at h
    next hbody =>
      split at h
      · cases h
        exact readBody_timesOk hbody
      · cases h
    · cases h
  · cases h

@[simp] theorem Entry.store_addr (f : Frame) (e : Entry) : (e.store f).addr = e.addr := by
  cases f <;> simp only [Entry.store, Entry.storeLoad, Entry.storeIntent, Entry.storeOutcome, Entry.storeHold,
    Entry.clearMatching] <;> (repeat' split) <;> rfl

@[simp] theorem Entry.store_age (f : Frame) (e : Entry) : (e.store f).age = e.age := by
  cases f <;> simp only [Entry.store, Entry.storeLoad, Entry.storeIntent, Entry.storeOutcome, Entry.storeHold,
    Entry.clearMatching] <;> (repeat' split) <;> rfl

@[simp] theorem Entry.store_fresh (f : Frame) (e : Entry) : (e.store f).fresh = e.fresh := by
  cases f <;> simp only [Entry.store, Entry.storeLoad, Entry.storeIntent, Entry.storeOutcome, Entry.storeHold,
    Entry.clearMatching] <;> (repeat' split) <;> rfl

theorem Entry.clearMatching_intent {num : Option Byte} {e : Entry} {i : PIntent}
    (h : (e.clearMatching num).intent = some i) : e.intent = some i := by
  unfold Entry.clearMatching at h
  split at h
  · split at h
    · cases h
    · exact h
  · exact h

@[simp] theorem Entry.clearMatching_hold (num : Option Byte) (e : Entry) : (e.clearMatching num).hold = e.hold := by
  unfold Entry.clearMatching
  (repeat' split) <;> rfl

/-- The pending intent stored is the frame's own or the one that was there. -/
theorem Entry.store_intent {f : Frame} {e : Entry} {i : PIntent} (h : (e.store f).intent = some i) :
    e.intent = some i ∨ ∃ b, f = .intent b ∧ i = ⟨b.num, b.moves, b.life⟩ := by
  cases f with
  | load b => exact .inl (Entry.clearMatching_intent h)
  | outcome b => exact .inl (Entry.clearMatching_intent h)
  | hold b => exact .inl h
  | intent b => exact .inr ⟨b, rfl, (Option.some.inj h).symm⟩

/-- The hold stored is the one that was there or one the frame brings. -/
theorem Entry.store_hold {f : Frame} {e : Entry} {x : PHold} (h : (e.store f).hold = some x) :
    e.hold = some x ∨ ∃ b, f = .hold b ∧ x.left = b.dur := by
  cases f with
  | load b => exact .inl (by simpa [Entry.store, Entry.storeLoad] using h)
  | outcome b => exact .inl (by simpa [Entry.store, Entry.storeOutcome] using h)
  | intent b => exact .inl h
  | hold b =>
    have hx : mergePeerHold e.hold b = x := Option.some.inj h
    unfold mergePeerHold at hx
    split at hx
    · exact .inr ⟨b, rfl, by rw [← hx]⟩
    next y hy =>
      split at hx
      · exact .inr ⟨b, rfl, by rw [← hx]⟩
      · split at hx
        next hle heq => exact .inr ⟨b, rfl, by rw [← hx]; exact heq⟩
        next => exact .inl (by rw [hy, hx])

/-- A frame stored in a refreshed or new entry. -/
theorem entrySound_store {e : Entry} {f : Frame} (hr : 1 ≤ s.conf.report) (hf : f.timesOk) (hage : e.age = 0)
    (hfresh : e.fresh = true) (hintent : ∀ i, e.intent = some i → 1 ≤ i.life ∧ i.life ≤ 60)
    (hhold : ∀ h, e.hold = some h → 1 ≤ h.left ∧ h.left ≤ 600) : s.entrySound (e.store f) := by
  refine ⟨?_, fun _ => ?_, fun h => ?_, fun i hi => ?_, fun x hx => ?_⟩
  · rw [Entry.store_age, hage, State.forgetAfter]
    omega
  · rw [Entry.store_age, hage, State.staleAfter]
    omega
  · rw [Entry.store_fresh, hfresh] at h
    cases h
  · rcases Entry.store_intent hi with hi | ⟨b, rfl, rfl⟩
    · exact hintent i hi
    · exact hf
  · rcases Entry.store_hold hx with hx | ⟨b, rfl, hb⟩
    · exact hhold x hx
    · rw [hb]
      exact hf

/-! ### The operations that write the table -/

/-- Where a frame from an address is stored: an entry refreshed under its own address, or a new one in a slot of a table in which the
address does not stand (R110 to R112). -/
theorem place_spec {addr k : Nat} {e : Entry} {old : Option Entry} (h : s.place addr = some (k, e, old)) :
    (∃ x, s.slot k = some x ∧ x.addr = addr ∧ e = x.refresh)
      ∨ ((∀ j, s.addrAt j ≠ some addr) ∧ e = Entry.create addr) := by
  unfold State.place at h
  split at h
  next j hj =>
    obtain ⟨x, hx, he⟩ := Option.map_eq_some_iff.mp h
    cases he
    obtain ⟨-, ha⟩ := addrAt_of_slotOf hj
    exact .inl ⟨x, hx, by simpa [State.addrAt, hx] using ha, rfl⟩
  next hnone =>
    refine .inr ⟨addrAt_ne_of_slotOf_none hnone, ?_⟩
    split at h
    · cases h
      rfl
    · obtain ⟨j, -, he⟩ := Option.map_eq_some_iff.mp h
      cases he
      rfl

theorem State.TableSound.stored {addr k : Nat} {e : Entry} {old : Option Entry} {f : Frame} (h : s.TableSound)
    (hw : s.mode.working = true) (ha : addr ≠ s.conf.address) (hf : f.timesOk) (hp : s.place addr = some (k, e, old)) :
    (s.setSlot k (some (e.store f))).TableSound := by
  obtain ⟨-, -, -, hentry, hreport⟩ := id h
  rcases place_spec hp with ⟨x, hx, hxa, rfl⟩ | ⟨hnew, rfl⟩
  · obtain ⟨-, -, -, hintent, hhold⟩ := hentry k x hx
    exact h.replace hx (by simp [Entry.refresh]) (entrySound_store hreport hf rfl rfl hintent hhold)
  · refine h.setSlot_some hw (by simpa [Entry.create] using ha) (fun j _ => by simpa [Entry.create] using hnew j) ?_
    exact entrySound_store hreport hf rfl rfl (fun _ hi => (nomatch hi)) (fun _ hh => (nomatch hh))

theorem State.TableSound.takeFrame {addr : Nat} {f : Frame} (h : s.TableSound) (hw : s.mode.working = true)
    (ha : addr ≠ s.conf.address) (hf : f.timesOk) : (s.takeFrame addr f).TableSound := by
  simp only [State.takeFrame]
  split
  · exact h.of_frame_station (by simp) (by simp) (by simp)
  next k e old hp =>
    have hstored := h.stored hw ha hf hp
    cases old <;> exact hstored.of_frame_station (by simp) (by simp) (by simp)

theorem State.TableSound.receiveFrame (h : s.TableSound) (bytes : List Byte) : (s.receiveFrame bytes).TableSound := by
  have hended : s.endAssembly.TableSound := h.of_frame_station (by simp) (by simp) (by simp)
  unfold State.receiveFrame
  split
  next addr f hheard =>
    unfold State.heardFrame at hheard
    split at hheard
    next hreceived =>
      have hworking : s.endAssembly.mode.working = true := by
        obtain ⟨-, hr⟩ := hreceived
        simp only [State.receives, Bool.and_eq_true] at hr
        simpa [State.mode] using hr.1
      unfold State.frameHeard
      split
      · exact hended.of_frame_station (by simp) (by simp) (by simp)
      next hown => exact hended.takeFrame hworking hown (validateFrame_timesOk hheard)
    next => cases hheard
  · exact hended

/-- The whole table takes a second. -/
theorem State.TableSound.aged (h : s.TableSound) :
    { s with nbrs := s.nbrs.map fun e : Option Entry => e.bind (Entry.second s.staleAfter s.forgetAfter) }.TableSound := by
  obtain ⟨hlen, hdistinct, haddr, hentry, hreport⟩ := h
  have hslot : ∀ k, State.slot { s with nbrs := s.nbrs.map fun e => e.bind (Entry.second s.staleAfter s.forgetAfter) } k
      = (s.slot k).bind (Entry.second s.staleAfter s.forgetAfter) := by
    intro k
    simp only [State.slot, List.getD_eq_getElem?_getD, List.getElem?_map]
    cases s.nbrs[k]? <;> rfl
  have hold : ∀ k x, (s.slot k).bind (Entry.second s.staleAfter s.forgetAfter) = some x →
      s.entrySound x ∧ s.addrAt k = some x.addr := by
    intro k x hx
    obtain ⟨e, he, hex⟩ := Option.bind_eq_some_iff.mp hx
    obtain ⟨hsound, ha⟩ := entrySound_second (hentry k e he) hex
    exact ⟨hsound, by simp [State.addrAt, he, ha]⟩
  have hat : ∀ k a, State.addrAt { s with nbrs := s.nbrs.map fun e => e.bind (Entry.second s.staleAfter s.forgetAfter) } k = some a →
      s.addrAt k = some a := by
    intro k a hk
    rw [State.addrAt, hslot] at hk
    obtain ⟨x, hx, rfl⟩ := Option.map_eq_some_iff.mp hk
    exact (hold k x hx).2
  refine ⟨by simpa using hlen, fun j k a hj hk => hdistinct j k a (hat j a hj) (hat k a hk), fun k a hk => haddr k a (hat k a hk),
    fun k x hx => ?_, hreport⟩
  rw [hslot] at hx
  exact (hold k x hx).1

theorem State.TableSound.tableSecond (h : s.TableSound) : s.tableSecond.TableSound := by
  unfold State.tableSecond
  exact h.aged.of_frame_station (by simp) (by simp) (by simp)

theorem State.TableSound.second (h : s.TableSound) : s.second.TableSound := by
  have hcounted : s.countSecond.TableSound := h.of_frame (by simp) (by simp) id
  exact hcounted.tableSecond.of_frame_station (by simp [State.second]) (by simp [State.second]) (by simp [State.second])

theorem State.TableSound.secondsTick (h : s.TableSound) : s.secondsTick.TableSound := by
  refine .of_ite (State.TableSound.second (h.of_frame_station rfl rfl rfl)) ?_
  cases s.time.source with
  | holdover => exact h.second
  | mains => exact h

theorem State.TableSound.staleAge (h : s.TableSound) (k : Nat) : (s.staleAge k).TableSound := by
  obtain ⟨-, -, -, hentry, -⟩ := id h
  unfold State.staleAge
  cases hk : s.slot k with
  | none => exact h
  | some e =>
    refine .of_ite ?_ h
    exact (h.replace (e := e.staled) hk rfl (entrySound_staled (hentry k e hk))).of_frame_station (by simp) (by simp) (by simp)

theorem State.TableSound.forgetAge (h : s.TableSound) (k : Nat) : (s.forgetAge k).TableSound := by
  unfold State.forgetAge
  cases s.slot k with
  | none => exact h
  | some e => exact .of_ite ((h.setSlot_none k).of_frame_station (by simp) (by simp) (by simp)) h

theorem State.TableSound.intentLifetimeEnd (h : s.TableSound) (k : Nat) : (s.intentLifetimeEnd k).TableSound := by
  obtain ⟨-, -, -, hentry, -⟩ := id h
  unfold State.intentLifetimeEnd
  cases hk : s.slot k with
  | none => exact h
  | some e =>
    obtain ⟨hage, hfresh, hstale, -, hhold⟩ := hentry k e hk
    refine .of_ite ?_ h
    exact (h.replace (e := { e with intent := none }) hk rfl ⟨hage, hfresh, fun hf => by simp [hstale hf], fun _ hi => (nomatch hi), hhold⟩).of_frame_station
      (by simp) (by simp) (by simp)

theorem State.TableSound.peerHoldEnd (h : s.TableSound) (k : Nat) : (s.peerHoldEnd k).TableSound := by
  obtain ⟨-, -, -, hentry, -⟩ := id h
  unfold State.peerHoldEnd
  cases hk : s.slot k with
  | none => exact h
  | some e =>
    obtain ⟨hage, hfresh, hstale, hintent, -⟩ := hentry k e hk
    exact .of_ite (h.replace (e := { e with hold := none }) hk rfl ⟨hage, hfresh, fun hf => by simp [hstale hf], hintent, fun _ hh => (nomatch hh)⟩) h

/-! ### Modes, phase events and records -/

theorem State.TableSound.enterListenOnly (h : s.TableSound) : s.enterListenOnly.TableSound :=
  h.of_frame (by simp) (by simp) fun _ => by simp [State.enterListenOnly, State.mode, Mode.working]

theorem State.TableSound.enterActive (h : s.TableSound) : s.enterActive.TableSound :=
  h.of_frame (by simp) (by simp) fun _ => by simp [State.enterActive, State.mode, Mode.working]

theorem State.TableSound.enterBlackout (h : s.TableSound) : s.enterBlackout.TableSound :=
  h.of_frame (by simp) (by simp) fun _ => by simp [State.enterBlackout, State.mode, Mode.working]

theorem State.TableSound.beginInventory (h : s.TableSound) : s.beginInventory.TableSound :=
  h.of_frame (by simp) (by simp) fun _ => by simp [State.beginInventory, State.mode, Mode.working]

theorem State.TableSound.finishInventoryQuery (h : s.TableSound) (i : Nat) : (s.finishInventoryQuery i).TableSound := by
  have hfree : (s.modEngine fun e => { e with req := none, invNext := i + 1 }).TableSound := h.of_frame_station rfl rfl rfl
  exact .of_ite (hfree.of_frame_station (by simp) (by simp) (by simp)) hfree.enterListenOnly

theorem State.TableSound.inventoryAnswer (h : s.TableSound) (i : Nat) (a : Option (Option Phase)) :
    (s.inventoryAnswer i a).TableSound :=
  State.TableSound.finishInventoryQuery (h.of_frame_station (by simp) (by simp) (by simp)) i

theorem State.TableSound.phaseLoss (h : s.TableSound) (p : Phase) : (s.phaseLoss p).TableSound := by
  simp only [State.phaseLoss]
  refine .of_ite (.of_ite ?_ ?_) (h.of_frame_station (by simp) (by simp) (by simp))
  · exact State.TableSound.enterBlackout (h.of_frame_station (by simp) (by simp) (by simp))
  · exact State.TableSound.enterBlackout (h.of_frame_station (by simp) (by simp) (by simp))

theorem State.TableSound.phaseReturn (h : s.TableSound) (p : Phase) : (s.phaseReturn p).TableSound := by
  simp only [State.phaseReturn]
  split
  · exact State.TableSound.enterListenOnly (h.of_frame_station (by simp) (by simp) (by simp))
  · exact .of_ite (State.TableSound.enterMode (h.of_frame_station (by simp) (by simp) (by simp)) rfl _)
      (h.of_frame_station (by simp) (by simp) (by simp))
  all_goals exact h.of_frame_station (by simp) (by simp) (by simp)

theorem State.TableSound.examine (h : s.TableSound) (volts : Ph3 Nat) (p : Phase) : (s.examine volts p).TableSound :=
  .of_ite ((h.phaseLoss p).of_ite h) ((h.phaseReturn p).of_ite (h.of_frame_station (by simp) (by simp) (by simp)))

theorem State.TableSound.supervise (h : s.TableSound) (volts : Ph3 Nat) : (s.supervise volts).TableSound :=
  State.TableSound.of_frame_station
    (List.foldlRecOn (motive := State.TableSound) Phase.all (State.examine volts) h fun _ ht p _ => ht.examine volts p) rfl rfl rfl

theorem State.TableSound.acceptRecord (h : s.TableSound) (w : Byte) (rs : List Reading) (volts : Ph3 Nat) :
    (s.acceptRecord w rs volts).TableSound := by
  have htaken : ((s.recordTaken w rs).freshen).TableSound := h.of_frame_station (by simp) (by simp) (by simp)
  exact (htaken.supervise volts).of_frame_station (by simp [State.acceptRecord]) (by simp [State.acceptRecord])
    (by simp [State.acceptRecord])

theorem State.TableSound.listenOnlyExpiry (h : s.TableSound) : s.listenOnlyExpiry.TableSound :=
  (h.enterActive.of_ite h.enterBlackout).of_ite h

/-! ### Inventory queries -/

theorem State.TableSound.queryTaken (h : s.TableSound) (r : Req) (path : Option Phase) : (s.queryTaken r path).TableSound := by
  have hkept {t : State} (hn : t.nbrs = s.nbrs) (hc : t.cfg = s.cfg) (hm : t.station = s.station) : t.TableSound :=
    h.of_frame_station hn hc hm
  unfold State.queryTaken
  split
  next m => cases m.step <;> cases path <;> exact hkept (by simp) (by simp) (by simp)
  next i _ => cases path <;> exact hkept (by simp) (by simp) (by simp)
  next i _ => exact hkept (by simp) (by simp) (by simp)
  next i _ => exact h.inventoryAnswer i _
  all_goals exact h

theorem State.TableSound.queryAnswer (h : s.TableSound) (i : Nat) (path : Option Phase) (good : Bool) :
    (s.queryAnswer i path good).TableSound := by
  unfold State.queryAnswer
  cases s.answered i good with
  | some r => exact h.queryTaken r path
  | none => exact h

theorem State.TableSound.queryTimeout (h : s.TableSound) : s.queryTimeout.TableSound := by
  have hexpired {r : Req} {t : State} (he : s.expired = some (r, t)) : t.TableSound := by
    obtain ⟨q, -, -, -, rfl⟩ := s.expired_some r t he
    exact h.of_frame_station (by simp) (by simp) (by simp)
  unfold State.queryTimeout
  split
  next he => exact .of_ite ((hexpired he).of_frame_station (by simp) (by simp) (by simp)) h
  next he => exact (hexpired he).of_frame_station (by simp) (by simp) (by simp)
  next he => exact (hexpired he).of_frame_station (by simp) (by simp) (by simp)
  next he => exact (hexpired he).inventoryAnswer _ _
  all_goals exact h

/-! ### Reset, loading and the service link -/

theorem powerOn_tableSound (s : State) : s.powerOn.TableSound := tableSound_of_empty rfl (Nat.le_of_ble_eq_true rfl)

/-- A restart empties the table (R175). -/
theorem State.TableSound.restartEvent (h : s.TableSound) : s.restartEvent.TableSound := by
  obtain ⟨-, -, -, -, hreport⟩ := h
  exact State.TableSound.beginInventory (tableSound_of_empty rfl hreport)

/-- Outside the working modes the table is empty, so that a new configuration meets no entry. -/
theorem State.TableSound.of_not_working (h : s.TableSound) (hw : s.mode.working = false) (hn : t.nbrs = s.nbrs)
    (hr : 1 ≤ t.conf.report) : t.TableSound := by
  obtain ⟨hlen, -, haddr, -, -⟩ := h
  refine tableSound_of_empty (hn.trans (List.eq_replicate_iff.mpr ⟨hlen, fun e he => ?_⟩)) hr
  obtain ⟨k, hk⟩ := List.getElem?_of_mem he
  cases e with
  | none => rfl
  | some x =>
    have hat : s.addrAt k = some x.addr := by simp [State.addrAt, State.slot, hk]
    exact absurd ((haddr k _ hat).1.symm.trans hw) (by simp)

theorem not_working_of_loaderReading (h : s.loaderReading = true) : s.mode.working = false := by
  simp only [State.loaderReading, Bool.and_eq_true, beq_iff_eq] at h
  rw [h.1]
  rfl

theorem clampImage_report (im : List Byte) : 1 ≤ (clampImage im).val.report := by
  simp only [clampImage, clampNat]
  omega

theorem State.TableSound.imageReadIn (h : s.TableSound) (image : List Byte) : (s.imageReadIn image).TableSound := by
  unfold State.imageReadIn
  split
  next hr =>
    have hw := not_working_of_loaderReading hr
    split
    · refine State.TableSound.beginInventory (h.of_not_working hw (by simp) ?_)
      simpa [State.conf] using clampImage_report image
    · exact h.of_not_working hw (by simp) (by simpa [State.conf] using h.2.2.2.2)
  next => exact h

theorem State.TableSound.attemptReadFailed (h : s.TableSound) : s.attemptReadFailed.TableSound := by
  unfold State.attemptReadFailed
  split
  next hr =>
    exact .of_ite (h.of_frame rfl rfl id)
      (h.of_not_working (not_working_of_loaderReading hr) (by simp) (by simpa [State.conf] using h.2.2.2.2))
  next => exact h

theorem State.TableSound.readRetry (h : s.TableSound) : s.readRetry.TableSound :=
  State.TableSound.of_ite (t := s.beginRead) (h.of_frame rfl rfl id) h

theorem State.TableSound.pornRise (h : s.TableSound) : s.pornRise.TableSound := by
  unfold State.pornRise
  split
  · exact (powerOn_tableSound s).of_frame rfl rfl id
  · exact h

theorem State.TableSound.resetnFall (h : s.TableSound) : s.resetnFall.TableSound := by
  have hlow : (s.setResetn true).TableSound := h.of_frame_station rfl rfl rfl
  exact h.of_ite (hlow.restartEvent.of_ite hlow)

theorem State.TableSound.resetnRise (h : s.TableSound) : s.resetnRise.TableSound := by
  have hhigh : (s.setResetn false).TableSound := h.of_frame_station rfl rfl rfl
  exact (hhigh.beginInventory.of_ite hhigh).of_ite h

theorem State.TableSound.responseEnd (h : s.TableSound) : s.responseEnd.TableSound := by
  unfold State.responseEnd
  cases s.svc.rx with
  | responding => exact h.restartEvent.of_ite (h.of_frame_station rfl rfl rfl)
  | idle | receiving | discarding => exact h

theorem State.TableSound.decision {d : List Byte → State → Decision} (h : s.TableSound) (hd : d ∈ decisions) (p : List Byte) :
    (d p s).2.TableSound := by
  rcases decision_cases hd p s with ⟨fl, v, b, l, he⟩ | ⟨-, -, i, -, -, he⟩ | ⟨-, n, -, -, he⟩ <;> rw [he]
  · exact h.of_frame rfl rfl id
  · rcases release_state i s with hr | ⟨f, hr⟩ <;> rw [hr]
    · exact h
    · exact h.of_frame_station (by simp) (by simp) (by simp)
  · exact h.of_frame_station (by simp) (by simp) (by simp)

theorem State.TableSound.takeRequest {d : List Byte → State → Decision} (h : s.TableSound) (k : Byte) (p : List Byte)
    (hd : d ∈ decisions) : (s.takeRequest k p d).TableSound :=
  takeRequest_keeps p s State.TableSound (fun _ _ ht => ht) (fun _ _ ht => ht) k d h (h.decision hd p)
    fun j q => h.decision (decideKind_mem_decisions j) q

theorem State.TableSound.takeFrameBytes (h : s.TableSound) (p : List Byte) : (s.takeFrameBytes p).TableSound :=
  takeFrameBytes_keeps p s State.TableSound (fun _ _ ht => ht) (fun _ _ ht => ht) h
    fun j q => h.decision (decideKind_mem_decisions j) q

/-! ### Every command, and every step -/

theorem State.TableSound.of_next {u : State} (h : u.TableSound)
    (he : (Host.Outcome.next u : Host.Outcome State Fault Refusal) = .next t) : t.TableSound := by
  cases he
  exact h

theorem State.TableSound.of_exec {c : Instr} (h : s.TableSound) (he : exec c s = .next t) : t.TableSound := by
  cases c with
  | powerOnReset => exact of_next (powerOn_tableSound s) he
  | pornRise => exact of_next h.pornRise he
  | readAttemptSuccess image => exact of_next (h.of_powered (h.imageReadIn image)) he
  | readAttemptFailure | busHeldLowTimeout => exact of_next (h.of_powered h.attemptReadFailed) he
  | readRetryWaitExpiry => exact of_next (h.of_powered h.readRetry) he
  | resetnFall => exact of_next h.resetnFall he
  | resetnRise => exact of_next h.resetnRise he
  | crossing p e =>
    exact of_next ((h.of_frame_station (by simp) (by simp) (by simp)).of_ite
      (h.of_frame_station (by simp) (by simp) (by simp))) he
  | secondsTick => exact of_next (h.of_powered h.secondsTick) he
  | crossingWatchExpiry p => exact of_next (h.of_powered ((h.phaseLoss p).of_ite h)) he
  | acceptedRecord readings volts =>
    refine of_next (h.of_powered ?_) he
    split
    · exact h.acceptRecord _ readings volts
    · exact h
  | recoveryRetryDue i => exact of_next (h.of_powered ((h.of_frame_station (by simp) (by simp) (by simp)).of_ite h)) he
  | queryAnswer i path good => exact of_next (h.of_powered (h.queryAnswer i path good)) he
  | queryTimeout => exact of_next (h.of_powered h.queryTimeout) he
  | lcdActive | lcdInactive =>
    exact of_next ((h.of_frame_station (by simp) (by simp) (by simp)).of_ite
      (h.of_frame_station (by simp) (by simp) (by simp))) he
  | loadFrame bytes | intentFrame bytes | outcomeFrame bytes | holdFrame bytes | discardedFrame bytes =>
    exact of_next (h.of_powered (h.receiveFrame bytes)) he
  | staleAge slot => exact of_next (h.of_powered (h.staleAge slot)) he
  | forgetAge slot => exact of_next (h.of_powered (h.forgetAge slot)) he
  | intentLifetimeEnd slot => exact of_next (h.of_powered (h.intentLifetimeEnd slot)) he
  | peerHoldEnd slot => exact of_next (h.of_powered (h.peerHoldEnd slot)) he
  | listenOnlyTimerExpiry => exact of_next (h.of_powered h.listenOnlyExpiry) he
  | status p | readConnection p | readNeighbour p | readEvents p | clearEvents p | release p | override p | lock p | hold p
  | restart p | ident p =>
    exact of_next (h.of_powered (h.takeRequest _ p (by simp [decisions]))) he
  | unknownRequestKind kind p => exact of_next (h.of_powered (h.takeRequest kind p (decideKind_mem_decisions kind))) he
  | malformedFrame bytes => exact of_next (h.of_powered (h.takeFrameBytes bytes)) he
  | responseEnd => exact of_next (h.of_powered h.responseEnd) he
  | _ => exact of_next (h.of_powered (h.of_frame_station (by simp) (by simp) (by simp))) he

theorem State.TableSound.of_step (h : s.TableSound) (he : step s = .next t) : t.TableSound := by
  unfold step at he
  cases hp : s.pending with
  | nil =>
    rw [hp] at he
    exact of_next (h.of_frame_station (by simp) (by simp) (by simp)) he
  | cons c rest =>
    rw [hp] at he
    exact State.TableSound.of_exec (s := { s with pending := rest }) h he

end Sys2Proof.Machine

namespace Sys2Proof.Proofs

open Sys2Proof.Machine

/-- Settles O58: the neighbour table is sound after every step from a state in which it is. -/
theorem stepKeepsNeighbourTableSound : Obligations.StepKeepsNeighbourTableSound := fun _ _ h he => h.of_step he

end Sys2Proof.Proofs


/-! One traversal of the commands for every property that the shared operations keep: what such a property has to withstand, in
layers (the transfer engine, the planner and the neighbour table, the rows of the commands), and what it then withstands. The
invariants that speak of several blocks at once are instances: most of them of `KeptByCommands`, which takes the engine's rows apart
into the engine's own operations; one that holds only between such operations is a case of `KeptByRows`. -/

namespace Sys2Proof.Machine

variable {P : State → Prop} {s t : State}

theorem of_ite_of_imp {c : Prop} [Decidable c] (ht : c → P s) (hu : ¬c → P t) : P (if c then s else t) := by
  split
  next h => exact ht h
  next h => exact hu h

theorem of_powered {f : State → State} (h : P s) (hf : P (f s)) : P (powered f s) := of_ite_of_imp (fun _ => h) fun _ => hf

theorem of_next {u : State} (h : P u) (he : (Host.Outcome.next u : Host.Outcome State Fault Refusal) = .next t) : P t := by
  cases he
  exact h

@[simp] theorem cyclesPass_req (n : Nat) (s : State) : (s.cyclesPass n).engine.req = s.engine.req.map (Req.count n) := by
  simp [State.cyclesPass]

/-- At the end of its timeout a request is in flight with nothing left of its count (R58). -/
theorem req_of_expired {r : Req} (h : s.expired = some (r, t)) : t.engine.req = some r := by
  obtain ⟨q, hq, rfl, -, rfl⟩ := s.expired_some r t h
  simp [hq]

/-! ### The transfer engine -/

/-- No inventory query is in the record. -/
def Req.notInventory : Req → Bool
  | .inventory _ _ => false
  | .move _ | .recovery _ _ _ | .check _ _ => true

/-- A command that closes no path. -/
def ModCmd.closes : ModCmd → Bool
  | .make _ _ => true
  | .arm _ | .break _ | .query _ => false

/-- What the tick and the row of a dwell's end leave of a record: RESTING without a dwell only when marked for the next tick (R28). -/
def Conn.EndTaken (c : Conn) : Prop := c.st = .resting → c.dwell = 0 → c.unticked = true

/-- A change of a record that leaves no dwell at its end. -/
def KeepsDwell (f : Conn → Conn) : Prop := ∀ c : Conn, c.EndTaken → (f c).EndTaken

/-- RESTING is given with dwell left, and STEADY without (R28). -/
theorem Conn.foundOn_endTaken (x : Phase) (ok : Bool) (c : Conn) : (c.foundOn x ok).EndTaken := by
  intro hst hdwell
  have hnone : ¬0 < c.dwell := by simpa [Conn.foundOn] using hdwell
  simp only [Conn.foundOn, Conn.restOrSteady, if_neg hnone] at hst
  split at hst <;> cases hst

/-- Joining or keeping a place in the recovery set is no matter of dwell. -/
theorem Conn.joinSet_keepsDwell {kind : RecKind} {retry : Nat} {f : Conn → Conn} (hf : KeepsDwell f) :
    KeepsDwell fun c => Conn.joinSet kind retry (f c) := by
  intro c hc
  change (Conn.joinSet kind retry (f c)).EndTaken
  rw [Conn.joinSet_eq]
  exact hf c hc

theorem Conn.attemptFailed_keepsDwell : KeepsDwell Conn.attemptFailed := by
  intro c hc
  unfold Conn.attemptFailed
  split
  · exact hc
  · exact fun hr => (nomatch hr)

theorem Conn.goDark_endTaken (n : Nat) (c : Conn) : (c.goDark n).EndTaken := by
  rw [Conn.goDark, Conn.joinSet_eq]
  exact fun hr => (nomatch hr)

theorem Conn.checked_keepsDwell (allowed : Phase → Bool) (a : Option (Option Phase)) : KeepsDwell (Conn.checked allowed a) := by
  intro c hc
  rcases a with _ | _ | x
  · exact hc
  · exact Conn.goDark_endTaken _ _
  · exact Conn.foundOn_endTaken x _ _

theorem Conn.inventoried_keepsDwell (allowed : Phase → Bool) (a : Option (Option Phase)) :
    KeepsDwell (Conn.inventoried allowed a) := by
  intro c hc
  rcases a with _ | _ | x
  · exact hc
  · exact Conn.goDark_endTaken _ _
  · exact Conn.foundOn_endTaken x _ _

theorem Conn.dwellEnd_keepsDwell : KeepsDwell fun c =>
    { c with st := if c.st = .resting ∧ c.dwell = 0 ∧ c.unticked = false then .steady else c.st } := by
  intro c hc hst hdwell
  dsimp only at hst hdwell ⊢
  split at hst
  · cases hst
  · exact hc hst hdwell

/-- A property that does not look at pins, timebase, phases, comparator results, flags, service link, table or the two counters. -/
structure BlindToTheRest (P : State → Prop) : Prop where
  ignored : ∀ {s t : State}, P s → t.station = s.station → t.cfg = s.cfg → t.meas = s.meas → t.conns = s.conns →
    t.engine = s.engine → t.budget = s.budget → t.line = s.line → t.planner = s.planner → t.out = s.out → P t

namespace BlindToTheRest

variable (hP : BlindToTheRest P)
include hP

theorem setFlag (h : P s) (f : Flag) : P (s.setFlag f) := hP.ignored h rfl rfl rfl rfl rfl rfl rfl rfl rfl

theorem setFlagIf (h : P s) (b : Bool) (f : Flag) : P (s.setFlagIf b f) :=
  of_ite_of_imp (fun _ => hP.setFlag h f) fun _ => h

theorem drawn (h : P s) : P s.drawn := hP.ignored h rfl rfl rfl rfl rfl rfl rfl rfl rfl

theorem modPhase (h : P s) (p : Phase) (f : PhaseSup → PhaseSup) : P (s.modPhase p f) :=
  hP.ignored h rfl rfl rfl rfl rfl rfl rfl rfl rfl

theorem chooseRef (h : P s) : P s.chooseRef :=
  hP.ignored h (by simp) (by simp) (by simp) (by simp) (by simp) (by simp) (by simp) (by simp) (by simp)

theorem modSvc (h : P s) (f : Svc → Svc) : P (s.modSvc f) := hP.ignored h rfl rfl rfl rfl rfl rfl rfl rfl rfl

theorem setLcd (h : P s) (b : Bool) : P (s.setLcd b) := hP.ignored h rfl rfl rfl rfl rfl rfl rfl rfl rfl

theorem setResetn (h : P s) (b : Bool) : P (s.setResetn b) := hP.ignored h rfl rfl rfl rfl rfl rfl rfl rfl rfl

end BlindToTheRest

/-- A property that the operations of the transfer engine keep. -/
structure KeptByEngine (P : State → Prop) : Prop extends BlindToTheRest P where
  setReq : ∀ {s : State} {r : Option Req}, P s → r.all Req.notInventory = true → P (s.setReq r)
  inventory : ∀ {s : State} (n k : Nat), P s → s.mode = .inventory → P (s.setReq (some (.inventory n k)))
  send : ∀ {s : State} {o : Output}, P s → (∀ c, o = .command c → c.closes = false) → P (s.send o)
  modConn : ∀ {s : State} {f : Conn → Conn} (i : Nat), P s → KeepsDwell f → P (s.modConn i f)
  modHeld : ∀ {s : State} {f : Held → Held} (i : Nat), P s → P (s.modHeld i f)
  popRescue : ∀ {s : State}, P s → P (s.modEngine fun e => { e with rescue := e.rescue.tail })
  rescueEmptied : ∀ {s : State}, P s → P s.rescueEmptied
  recordConclusion : ∀ {s : State} (m : MoveReq) (k : Conclusion), P s → P (s.recordConclusion m k)
  appendStranded : ∀ {s : State} (i : Nat), P s → P (s.appendStranded i)
  planResult : ∀ {s : State} (pos : Nat) (r : MoveResult), P s → P (s.planResult pos r)
  issueHold : ∀ {s : State} {n : Nat} (r : Reason), P s → s.isActive = true → n = s.conf.holdTime ∨ 10 ≤ n → P (s.issueHold n r)

namespace KeptByEngine

variable (hP : KeptByEngine P)
include hP

theorem sendCommand (h : P s) {c : ModCmd} (hc : c.closes = false) : P (s.sendCommand c) :=
  hP.send h fun _ hd => Output.command.inj hd ▸ hc

theorem takeMove (h : P s) (m : MoveReq) : P (s.takeMove m) := by
  have hmoving : P (s.modConn m.conn fun c => { c with st := .moving, note := some ⟨m.rescue, m.src, m.dst⟩ }) :=
    hP.modConn _ h fun _ _ hr => (nomatch hr)
  exact hP.sendCommand (hP.setReq (hP.modHeld _ hmoving) rfl) rfl

theorem takePlanMove (h : P s) (pos : Nat) (m : Move) : P (s.takePlanMove pos m) :=
  of_ite_of_imp (fun _ => hP.takeMove h _) fun _ => hP.planResult pos _ h

theorem takeRescue (h : P s) (x : RescueEntry) : P (s.takeRescue x) := by
  simp only [State.takeRescue]
  split
  · exact hP.rescueEmptied (hP.popRescue h)
  · split
    · exact hP.rescueEmptied (hP.setFlag (hP.popRescue h) _)
    · exact hP.takeMove (hP.popRescue h) _

theorem takeMember (h : P s) (i : Nat) (k : RecKind) : P (s.takeMember i k) :=
  hP.sendCommand (hP.setReq h (by cases k <;> rfl)) rfl

theorem takeInventory (h : P s) (hm : s.mode = .inventory) : P s.takeInventory :=
  of_ite_of_imp (fun _ => hP.sendCommand (hP.inventory _ _ h hm) rfl) fun _ => h

theorem arbiter (h : P s) (n : Nat) : P (s.arbiter n) := by
  induction n generalizing s with
  | zero => exact h
  | succ n ih =>
    unfold State.arbiter
    refine of_ite_of_imp (fun _ => h) fun _ => ?_
    cases hm : s.mode with
    | loading | configFault | blackout => exact h
    | inventory => exact hP.takeInventory h hm
    | listenOnly =>
      cases s.dueMember with
      | none => exact h
      | some k => exact hP.takeMember h k.1 k.2
    | active =>
      cases s.dueMember with
      | some k => exact hP.takeMember h k.1 k.2
      | none =>
        cases s.engine.rescue with
        | cons x _ => exact ih (hP.takeRescue h x)
        | nil =>
          cases s.offeredMove with
          | none => exact h
          | some k => exact ih (hP.takePlanMove h k.1 k.2)

theorem arbitrate (h : P s) : P s.arbitrate := hP.arbiter h _

theorem flagConclusion (h : P s) (rescue outside silent : Bool) (k : Conclusion) :
    P (s.flagConclusion rescue outside silent k) :=
  hP.ignored h (by simp) (by simp) (by simp) (by simp) (by simp) (by simp) (by simp) (by simp) (by simp)

/-- A move concludes, in the order of R72. -/
theorem concludeMove (h : P s) (m : MoveReq) (k : Conclusion) (silent holdAsked : Bool) :
    P (s.concludeMove m k silent holdAsked) := by
  simp only [State.concludeMove]
  refine hP.arbitrate (of_ite_of_imp (fun hh => ?_) fun _ => ?_)
  · refine hP.issueHold _ ?_ hh.2 (.inl rfl)
    exact of_ite_of_imp (fun _ => hP.rescueEmptied (hP.setReq (hP.flagConclusion (hP.recordConclusion m k h) _ _ _ _) rfl))
      fun _ => hP.planResult _ _ (hP.setReq (hP.flagConclusion (hP.recordConclusion m k h) _ _ _ _) rfl)
  · exact of_ite_of_imp (fun _ => hP.rescueEmptied (hP.setReq (hP.flagConclusion (hP.recordConclusion m k h) _ _ _ _) rfl))
      fun _ => hP.planResult _ _ (hP.setReq (hP.flagConclusion (hP.recordConclusion m k h) _ _ _ _) rfl)

theorem atStep (h : P s) (m : MoveReq) (st : MoveStep) (n : Nat) : P (s.atStep m st n) := hP.setReq h rfl

theorem sendBreak (h : P s) (m : MoveReq) : P (s.sendBreak m) := hP.sendCommand (hP.atStep h _ _ _) rfl

theorem enterBreaking (h : P s) (m : MoveReq) : P (s.enterBreaking m) :=
  of_ite_of_imp (fun _ => hP.atStep h _ _ _) fun _ => hP.sendBreak h m

theorem failFallback (h : P s) (m : MoveReq) : P (s.failFallback m) := hP.concludeMove h m _ _ _

theorem enterFallback (h : P s) (m : MoveReq) : P (s.enterFallback m) := by
  unfold State.enterFallback
  cases s.fallbackTarget m with
  | some x => exact hP.atStep h _ _ _
  | none => exact hP.failFallback h m

theorem enterGap (h : P s) (m : MoveReq) : P (s.enterGap m) :=
  of_ite_of_imp (fun _ => hP.atStep h _ _ _) fun _ => hP.enterFallback h m

theorem enterSettling (h : P s) (m : MoveReq) : P (s.enterSettling m) :=
  of_ite_of_imp (fun _ => hP.atStep h _ _ _) fun _ => hP.concludeMove h m _ _ _

theorem endSettling (h : P s) : P s.endSettling := by
  unfold State.endSettling
  split
  · exact of_ite_of_imp (fun _ => hP.concludeMove h _ _ _ _) fun _ => h
  all_goals exact h

theorem setCur (h : P s) (i : Nat) (x : Option Phase) : P (s.setCur i x) := hP.modConn i h fun _ hc => hc

theorem finishRecovery (h : P s) (i : Nat) : P (s.finishRecovery i) :=
  hP.arbitrate (hP.appendStranded i (hP.setReq h rfl))

theorem recoveredOn (h : P s) (i : Nat) (x : Phase) (ok : Bool) : P (s.recoveredOn i x ok) :=
  hP.finishRecovery (hP.modConn (f := fun c => (c.foundOn x ok).leaveSet) i h fun c _ => Conn.foundOn_endTaken x ok c) i

theorem attemptFailed (h : P s) (i : Nat) : P (s.attemptFailed i) :=
  hP.finishRecovery (hP.setFlagIf (hP.modConn i h Conn.attemptFailed_keepsDwell) _ _) i

theorem attemptNotMade (h : P s) (i : Nat) : P (s.attemptNotMade i) :=
  hP.finishRecovery (hP.modConn (f := Conn.setRetry retryWait) i h fun _ hc => hc) i

theorem recoverDark (h : P s) (i : Nat) : P (s.recoverDark i) := by
  have hdark : P (s.modConn i fun c => { c with cur := none }) := hP.modConn i h fun _ hc => hc
  simp only [State.recoverDark]
  split
  · exact hP.setReq hdark rfl
  · exact hP.attemptNotMade hdark i

theorem releaseChecked (h : P s) (i : Nat) (a : Option (Option Phase)) : P (s.releaseChecked i a) :=
  hP.finishRecovery (hP.setFlagIf (hP.modConn i h (Conn.checked_keepsDwell _ a)) _ _) i

theorem abandonRequest (h : P s) : P s.abandonRequest := by
  unfold State.abandonRequest
  split
  · exact hP.concludeMove h _ _ _ _
  · exact hP.setReq (hP.modConn _ h fun _ hc => hc) rfl
  · exact hP.setReq (hP.modConn _ h fun _ hc => hc) rfl
  · exact hP.setReq h rfl
  · exact h

theorem engineLoss (h : P s) (x : Phase) : P (s.engineLoss x) := by
  unfold State.engineLoss
  split
  next m _ =>
    cases m.step with
    | breakWait => exact of_ite_of_imp (fun _ => hP.sendBreak h m) fun _ => h
    | gap => exact of_ite_of_imp (fun _ => hP.enterFallback h m) fun _ => h
    | fbWait => exact of_ite_of_imp (fun _ => hP.failFallback h m) fun _ => h
    | arming | breakSent | breakQuery | making | fbMake | settling => exact h
  next i _ _ _ => exact of_ite_of_imp (fun _ => hP.attemptFailed h i) fun _ => h
  next => exact h
  next => exact h
  next => exact h
  next => exact h
  next => exact hP.arbitrate h

theorem release (h : P s) (i : Nat) : P (s.release i).2 := by
  unfold State.release
  cases (s.conn i).st with
  | faulted =>
    dsimp only
    split
    · exact h
    · exact hP.arbitrate (hP.modConn i h (Conn.joinSet_keepsDwell fun _ hc => hc))
  | darkLocked => exact hP.arbitrate (hP.modConn i h (Conn.joinSet_keepsDwell fun _ _ hr => (nomatch hr)))
  | steady | moving | resting | dark | unconfigured => exact h

/-! #### Answers and timeouts that start no balancing transfer and conclude no inventory query -/

theorem notReady (h : P s) (i : Nat) (good : Bool) : P (s.notReady i good) := by
  unfold State.notReady
  split
  · exact of_ite_of_imp (fun _ => hP.concludeMove h _ _ _ _) fun _ => h
  · exact h

theorem opened (h : P s) (i : Nat) (good : Bool) : P (s.opened i good) := by
  unfold State.opened
  split
  · exact of_ite_of_imp (fun _ => hP.enterGap (hP.setCur h _ _) _) fun _ => h
  · exact h

theorem sendBreakQuery (h : P s) (m : MoveReq) : P (s.sendBreakQuery m) := hP.sendCommand (hP.atStep h _ _ _) rfl

theorem refused (h : P s) (r : Req) : P (s.refused r) := by
  unfold State.refused
  split
  next m =>
    cases m.step with
    | breakSent => exact hP.sendBreakQuery h m
    | making => exact hP.enterFallback h m
    | fbMake => exact hP.failFallback h m
    | arming | breakWait | breakQuery | gap | fbWait | settling => exact h
  next i _ _ => exact hP.attemptFailed h i
  all_goals exact h

theorem nak (h : P s) (i : Nat) (good : Bool) : P (s.nak i good) := by
  unfold State.nak
  cases s.answered i good with
  | some r => exact hP.refused h r
  | none => exact h

theorem closedTaken (h : P s) (r : Req) (x : Phase) : P (s.closedTaken r x) := by
  unfold State.closedTaken
  split
  next m =>
    cases m.step with
    | making =>
      exact of_ite_of_imp (fun _ => hP.enterSettling (hP.setCur h _ _) m) fun _ => hP.concludeMove h m _ _ _
    | fbMake => exact hP.concludeMove h m _ _ _
    | arming | breakWait | breakSent | breakQuery | gap | fbWait | settling => exact h
  next i t _ => exact hP.recoveredOn h i x (x == t)
  all_goals exact h

theorem closed (h : P s) (i : Nat) (x : Phase) (good : Bool) : P (s.closed i x good) := by
  unfold State.closed
  cases s.answered i good with
  | some r => exact hP.closedTaken h r x
  | none => exact h

end KeptByEngine

/-! ### The planner and the neighbour table -/

/-- A property that the operations of the planner and of the line's queue keep. -/
structure KeptByTable (P : State → Prop) : Prop extends BlindToTheRest P where
  filterPrec : ∀ {s : State} (f : PrecPair → Bool), P s → P (s.modPlanner fun p => { p with prec := p.prec.filter f })
  releasePlanner : ∀ {s : State}, P s → P s.releasePlanner
  onPeerIntent : ∀ {s : State}, P s → P s.onPeerIntent
  onSetback : ∀ {s : State} (n : Noted), P s → P (s.onSetback n)
  withdraw : ∀ {s : State}, P s → s.planner.st = .held → P s.withdraw
  endAssembly : ∀ {s : State}, P s → P s.endAssembly

namespace KeptByTable

variable (hP : KeptByTable P)
include hP

theorem removePairs (h : P s) (gone : PrecPair → Bool) : P (s.removePairs gone) :=
  of_ite_of_imp (fun _ => hP.releasePlanner (hP.filterPrec _ h)) fun _ => hP.filterPrec _ h

theorem onNumber (h : P s) (addr : Nat) (num : Byte) : P (s.onNumber addr num) := hP.removePairs h _

theorem onEntryGone (h : P s) (addr : Nat) : P (s.onEntryGone addr) := hP.removePairs h _

theorem onCleared (h : P s) (addr : Nat) (i : Option PIntent) : P (s.onCleared addr i) := by
  cases i with
  | none => exact h
  | some x => exact hP.onNumber h addr x.num

theorem onHeard (h : P s) (addr : Nat) (f : Frame) : P (s.onHeard addr f) := by
  cases f with
  | intent b => exact hP.onPeerIntent h
  | outcome b => exact hP.onNumber h addr b.num
  | hold b => exact h
  | load b =>
    unfold State.onHeard
    dsimp only
    split
    · exact hP.onNumber h addr _
    · exact h

theorem onPeerHold (h : P s) (before : Bool) : P (s.onPeerHold before) :=
  of_ite_of_imp (fun _ => hP.onSetback _ h) fun _ => h

theorem setSlot (h : P s) (k : Nat) (e : Option Entry) : P (s.setSlot k e) :=
  hP.ignored h rfl rfl rfl rfl rfl rfl rfl rfl rfl

theorem takeFrame (h : P s) (addr : Nat) (f : Frame) : P (s.takeFrame addr f) := by
  simp only [State.takeFrame]
  split
  · exact hP.setFlag h _
  next k e old _ =>
    have hstored : P ((s.setSlot k (some (e.store f))).flagHold f) := by
      cases f with
      | hold b => exact hP.setFlag (hP.setSlot h _ _) _
      | load b | intent b | outcome b => exact hP.setSlot h _ _
    cases old with
    | none => exact hP.onPeerHold (hP.onHeard (hP.onCleared hstored _ _) _ _) _
    | some o =>
      exact hP.onPeerHold (hP.onHeard (hP.onCleared (hP.onCleared (hP.onEntryGone hstored _) _ _) _ _) _ _) _

theorem receiveFrame (h : P s) (bytes : List Byte) : P (s.receiveFrame bytes) := by
  unfold State.receiveFrame
  split
  · exact of_ite_of_imp (fun _ => hP.setFlag (hP.endAssembly h) _) fun _ => hP.takeFrame (hP.endAssembly h) _ _
  · exact hP.endAssembly h

theorem onEntrySecond (h : P s) (old : Entry) (e : Option Entry) : P (s.onEntrySecond old e) := by
  have hgone : P (if e.all fun x => old.fresh && !x.fresh then s.onEntryGone old.addr else s) :=
    of_ite_of_imp (fun _ => hP.onEntryGone h _) fun _ => h
  exact of_ite_of_imp (fun _ => hgone) fun _ => hP.onCleared hgone _ _

theorem onTableSecond (h : P s) (before after : List (Option Entry)) : P (s.onTableSecond before after) := by
  refine List.foldlRecOn (motive := P) _ _ h fun t ht x _ => ?_
  rcases x with ⟨_ | old, e⟩
  · exact ht
  · exact hP.onEntrySecond ht old e

theorem noticesOrLapse (h : P s) (before after : List (Option Entry)) : P (s.noticesOrLapse before after) :=
  of_ite_of_imp
    (fun hh => of_ite_of_imp (fun _ => hP.withdraw (hP.drawn h) hh.1) fun _ => hP.onTableSecond (hP.drawn h) _ _)
    fun _ => hP.onTableSecond h _ _

theorem tableSecond (h : P s) : P s.tableSecond := by
  have haged (l : List (Option Entry)) : P { s with nbrs := l } := hP.ignored h rfl rfl rfl rfl rfl rfl rfl rfl rfl
  exact hP.onPeerHold (hP.noticesOrLapse (haged _) _ _) _

theorem staleAge (h : P s) (k : Nat) : P (s.staleAge k) := by
  unfold State.staleAge
  cases s.slot k with
  | none => exact h
  | some e =>
    exact of_ite_of_imp (fun _ => hP.onPeerHold (hP.onCleared (hP.onEntryGone (hP.setSlot h _ _) _) _ _) _) fun _ => h

theorem forgetAge (h : P s) (k : Nat) : P (s.forgetAge k) := by
  unfold State.forgetAge
  cases s.slot k with
  | none => exact h
  | some e =>
    exact of_ite_of_imp (fun _ => hP.onPeerHold (hP.onCleared (hP.onEntryGone (hP.setSlot h _ _) _) _ _) _) fun _ => h

theorem intentLifetimeEnd (h : P s) (k : Nat) : P (s.intentLifetimeEnd k) := by
  unfold State.intentLifetimeEnd
  cases s.slot k with
  | none => exact h
  | some e => exact of_ite_of_imp (fun _ => hP.onCleared (hP.setSlot h _ _) _ _) fun _ => h

theorem peerHoldEnd (h : P s) (k : Nat) : P (s.peerHoldEnd k) := by
  unfold State.peerHoldEnd
  cases s.slot k with
  | none => exact h
  | some e => exact of_ite_of_imp (fun _ => hP.setSlot h _ _) fun _ => h

end KeptByTable

/-! ### The commands -/

/-- What a crossing makes of the pins, the phases, the counter and the access, before the engine takes it (R1 to R5). -/
def State.crossingCounted (p : Phase) (e : Edge) (s : State) : State :=
  let t := { s with pins := { s.pins with zc := s.pins.zc.set p (e == Edge.positive) } }
  let u := t.modPhase p fun x => { x with mark := true, watch := x.present }
  if e = Edge.negative then
    if u.time.ref = some p then u.referenceCrossing p else u.modTime (Time.crossed p false)
  else u

theorem crossing_eq (p : Phase) (e : Edge) (s : State) : s.crossing p e = (s.crossingCounted p e).engineCrossing p := rfl

/-- A property that the commands' operations keep, those of the engine's answers and timeouts aside. -/
structure KeptByOps (P : State → Prop) : Prop extends KeptByTable P where
  setLoader : ∀ {s : State} (l : Loader) (n : Nat), P s → P (s.setLoader l n)
  enterConfigFault : ∀ {s : State}, P s → s.mode = .loading → P s.enterConfigFault
  beginInventory : ∀ {s : State}, P s → s.mode = .inventory → P s.beginInventory
  restartEvent : ∀ {s : State}, P s → s.mode.working = true → P s.restartEvent
  cyclesPass : ∀ {s : State} (n : Nat), P s → P (s.cyclesPass n)
  second : ∀ {s : State}, P s → P s.second
  appendSelected : ∀ {s : State} (x : Phase), P s → P (s.appendSelected x)
  filterRescue : ∀ {s : State} (f : RescueEntry → Bool), P s → P (s.modEngine fun e => { e with rescue := e.rescue.filter f })
  enterBlackout : ∀ {s : State}, P s → s.mode = .active ∨ s.mode = .listenOnly → P s.enterBlackout
  listenAgain : ∀ {s : State} (n : Option Nat), P s → s.mode = .blackout ∨ s.mode = .listenOnly → P (s.enterMode .listenOnly n)
  enterActive : ∀ {s : State}, P s → s.mode = .listenOnly → P s.enterActive
  setReading : ∀ {s : State} (w : Option Byte), P s → P { s with meas := { s.meas with reading := w } }
  recordTaken : ∀ {s : State} (w : Byte) (rs : List Reading), P s → P (s.recordTaken w rs).freshen
  evalOnTrigger : ∀ {s : State}, P s → P s.evalOnTrigger
  ageEnd : ∀ {s : State}, P s → P s.ageEnd
  samplingEnd : ∀ {s : State}, P s → P s.samplingEnd
  monitoringEnd : ∀ {s : State}, P s → P s.monitoringEnd
  throttleEnd : ∀ {s : State}, P s → P s.throttleEnd
  lcdRise : ∀ {s : State}, P s → P s.lcdRise
  lcdFall : ∀ {s : State}, P s → P s.lcdFall
  gapComplete : ∀ {s : State}, P s → P s.gapComplete
  startTransmission : ∀ {s : State} {n : Nat}, P s → s.line.access = .defer n → P s.startTransmission
  transmissionComplete : ∀ {s : State}, P s → P s.transmissionComplete
  holdRemainingEnd : ∀ {s : State}, P s → P s.holdRemainingEnd
  evaluationExpiry : ∀ {s : State}, P s → P s.evaluationExpiry
  reportExpiry : ∀ {s : State}, P s → P s.reportExpiry
  announceExpiry : ∀ {s : State}, P s → P s.announceExpiry
  listenExpiry : ∀ {s : State}, P s → P s.listenExpiry

/-- The commands a station takes while it runs: those that neither power it up, load an image nor carry a request, a crossing aside. -/
def runs : Instr → Bool
  | .powerOnReset | .pornRise | .readAttemptSuccess _ | .crossing _ _ | .status _ | .readConnection _ | .readNeighbour _ | .readEvents _
  | .clearEvents _ | .release _ | .override _ | .lock _ | .hold _ | .restart _ | .ident _ | .unknownRequestKind _ _ | .malformedFrame _ =>
    false
  | _ => true

/-- A property that the rows of a running station keep, each row of the engine taken whole: those that neither power up, load an image
nor carry a request, a crossing aside. -/
structure KeptWhileRunning (P : State → Prop) : Prop extends KeptByOps P where
  send : ∀ {s : State} {o : Output}, P s → (∀ c, o = .command c → c.closes = false) → P (s.send o)
  rescueEmptied : ∀ {s : State}, P s → P s.rescueEmptied
  issueHold : ∀ {s : State} {n : Nat} (r : Reason), P s → s.isActive = true → n = s.conf.holdTime ∨ 10 ≤ n → P (s.issueHold n r)
  dwellEnd : ∀ {s : State}, P s → ∀ i : Nat,
    P (s.modConn i fun c => { c with st := if c.st = .resting ∧ c.dwell = 0 ∧ c.unticked = false then .steady else c.st })
  arbitrate : ∀ {s : State}, P s → P s.arbitrate
  endSettling : ∀ {s : State}, P s → P s.endSettling
  engineLoss : ∀ {s : State}, P s → ∀ (x : Phase), P (s.engineLoss x)
  release : ∀ {s : State}, P s → ∀ (i : Nat), s.mode.working = true → s.mode ≠ .inventory → P (s.release i).2
  ready : ∀ {s : State}, P s → ∀ (i : Nat) (path : Option Phase) (good : Bool), P (s.ready i path good)
  notReady : ∀ {s : State}, P s → ∀ (i : Nat) (good : Bool), P (s.notReady i good)
  opened : ∀ {s : State}, P s → ∀ (i : Nat) (good : Bool), P (s.opened i good)
  nak : ∀ {s : State}, P s → ∀ (i : Nat) (good : Bool), P (s.nak i good)
  closed : ∀ {s : State}, P s → ∀ (i : Nat) (x : Phase) (good : Bool), P (s.closed i x good)
  queryAnswer : ∀ {s : State}, P s → ∀ (i : Nat) (path : Option Phase) (good : Bool), P (s.queryAnswer i path good)
  armTimeout : ∀ {s : State}, P s → P s.armTimeout
  breakTimeout : ∀ {s : State}, P s → P s.breakTimeout
  closedTimeout : ∀ {s : State}, P s → P s.closedTimeout
  queryTimeout : ∀ {s : State}, P s → P s.queryTimeout
  gapLimit : ∀ {s : State}, P s → P s.gapLimit
  fallbackWaitLimit : ∀ {s : State}, P s → P s.fallbackWaitLimit
  recoveryWaitLimit : ∀ {s : State}, P s → P s.recoveryWaitLimit

namespace KeptWhileRunning

variable (hP : KeptWhileRunning P)
include hP

/-! #### Phase events and records -/

/-- A loss taken by the engine and the planner, before or without an entry to BLACKOUT. -/
theorem lossTaken (h : P s) (x : Phase) : P (((s.appendSelected x).engineLoss x).plannerPhaseLoss) :=
  hP.onSetback _ (hP.engineLoss (hP.appendSelected x h) x)

theorem phaseLoss (h : P s) (x : Phase) : P (s.phaseLoss x) := by
  have hlost : P ((s.modPhase x fun p => { p with present := false, watch := false, returns := 0 }).setFlag .phaseLost).chooseRef :=
    hP.chooseRef (hP.setFlag (hP.modPhase h x _) _)
  simp only [State.phaseLoss]
  refine of_ite_of_imp (fun hb => ?_) fun _ => hP.lossTaken hlost x
  simp only [State.lossLeadsToBlackout, Bool.and_eq_true, Bool.or_eq_true, beq_iff_eq] at hb
  refine of_ite_of_imp (fun _ => ?_) fun _ => ?_
  · exact hP.enterBlackout (hP.drawn hlost) hb.2
  · exact hP.enterBlackout (hP.lossTaken (hP.drawn hlost) x) (by simpa [State.mode] using hb.2)

theorem phaseReturn (h : P s) (x : Phase) : P (s.phaseReturn x) := by
  have hback : P ((s.modPhase x fun p => { p with present := true, watch := true, returns := 0 }).setFlag .phaseReturned).chooseRef :=
    hP.chooseRef (hP.setFlag (hP.modPhase h x _) _)
  have hlisted := hP.rescueEmptied (hP.filterRescue (fun r => r.lost != x) hback)
  simp only [State.phaseReturn]
  split
  next hm => exact hP.arbitrate (hP.listenAgain _ hlisted (.inl hm))
  next hm => exact of_ite_of_imp (fun _ => hP.listenAgain _ hlisted (.inr hm)) fun _ => hlisted
  all_goals exact hlisted

theorem examine (h : P s) (volts : Ph3 Nat) (p : Phase) : P (s.examine volts p) := by
  simp only [State.examine]
  refine of_ite_of_imp (fun _ => of_ite_of_imp (fun _ => hP.phaseLoss h p) fun _ => h) fun _ => ?_
  exact of_ite_of_imp (fun _ => hP.phaseReturn h p) fun _ => hP.ignored h rfl rfl rfl rfl rfl rfl rfl rfl rfl

theorem supervise (h : P s) (volts : Ph3 Nat) : P (s.supervise volts) := by
  have hexamined : P (Phase.all.foldl (State.examine volts) s) :=
    List.foldlRecOn (motive := P) Phase.all (State.examine volts) h fun _ ht p _ => hP.examine ht volts p
  exact hP.ignored hexamined rfl rfl rfl rfl rfl rfl rfl rfl rfl

theorem takeAction (h : P s) (a : Action) (taken : Bool) : P (s.takeAction a taken) := by
  refine of_ite_of_imp (fun hactive => ?_) fun _ => h
  cases a with
  | flag => exact h
  | evaluate => exact of_ite_of_imp (fun _ => h) fun _ => hP.evalOnTrigger h
  | hold => exact hP.issueHold _ h hactive (.inl rfl)

theorem compare (h : P s) (taken : Bool) (k : Nat) : P (s.compare taken k) := by
  unfold State.compare
  split
  · exact h
  · refine of_ite_of_imp (fun _ => ?_) fun _ => h
    have hcompared (l : List Bool) : P { s with comps := l } := hP.ignored h rfl rfl rfl rfl rfl rfl rfl rfl rfl
    exact of_ite_of_imp (fun _ => hP.takeAction (hP.setFlag (hcompared _) _) _ _) fun _ => hcompared _

theorem compareFrom (h : P s) (taken : Bool) (l : List Nat) : P (s.compareFrom taken l) := by
  induction l generalizing s taken with
  | nil => exact h
  | cons k rest ih => exact ih (hP.compare h taken k) _

theorem acceptRecord (h : P s) (w : Byte) (rs : List Reading) (volts : Ph3 Nat) : P (s.acceptRecord w rs volts) :=
  hP.endSettling (hP.compareFrom (hP.supervise (hP.recordTaken w rs h) volts) _ _)

theorem dataReady (h : P s) (w : Byte) : P (s.dataReady w) := by
  have hack : P (s.send .ack) := hP.send h fun _ hc => (nomatch hc)
  exact of_ite_of_imp
    (fun _ => of_ite_of_imp (fun _ => h) fun _ => of_ite_of_imp (fun _ => hack) fun _ => hP.setReading _ h) fun _ => hack

theorem secondsTick (h : P s) : P s.secondsTick := by
  refine of_ite_of_imp (fun _ => hP.second (hP.ignored h rfl rfl rfl rfl rfl rfl rfl rfl rfl)) fun _ => ?_
  cases s.time.source with
  | holdover => exact hP.second h
  | mains => exact h

/-! #### Answers, timeouts and the rows of the line -/

theorem quietGap (h : P s) : P s.quietGap := by
  have hcycles (k : Nat) : P (if gapCycles ≤ k then s.gapComplete
      else if s.noCycles then s.cyclesPass (gapCycles - k) else s) :=
    of_ite_of_imp (fun _ => hP.gapComplete h) fun _ => of_ite_of_imp (fun _ => hP.cyclesPass _ h) fun _ => h
  unfold State.quietGap
  split
  · exact hcycles _
  · exact hcycles _
  all_goals exact h

theorem deferralEnd (h : P s) : P s.deferralEnd := by
  unfold State.deferralEnd
  split
  next n hn =>
    exact of_ite_of_imp (fun _ => hP.startTransmission h hn) fun _ => of_ite_of_imp (fun _ => hP.cyclesPass _ h) fun _ => h
  all_goals exact h

theorem lifetimeExpiry (h : P s) : P s.lifetimeExpiry := of_ite_of_imp (fun hh => hP.withdraw h hh.1) fun _ => h

theorem listenOnlyExpiry (h : P s) : P s.listenOnlyExpiry :=
  of_ite_of_imp
    (fun hh => of_ite_of_imp (fun _ => hP.enterActive h hh.1) fun _ => hP.enterBlackout h (.inr hh.1)) fun _ => h

/-! #### Reset, loading and the service link -/

theorem beginRead (h : P s) : P s.beginRead := hP.send (hP.setLoader _ _ h) fun _ hc => (nomatch hc)

theorem attemptReadFailed (h : P s) : P s.attemptReadFailed := by
  refine of_ite_of_imp (fun hr => ?_) fun _ => h
  simp only [State.loaderReading, Bool.and_eq_true, beq_iff_eq] at hr
  exact of_ite_of_imp (fun _ => hP.setLoader _ _ h) fun _ => hP.enterConfigFault h hr.1

theorem readRetry (h : P s) : P s.readRetry := of_ite_of_imp (fun _ => hP.beginRead h) fun _ => h

theorem resetnFall (h : P s) : P s.resetnFall :=
  of_ite_of_imp (fun _ => h) fun _ =>
    of_ite_of_imp (fun hw => hP.restartEvent (hP.setResetn h _) (Bool.and_eq_true_iff.mp hw).1) fun _ => hP.setResetn h _

theorem resetnRise (h : P s) : P s.resetnRise := by
  refine of_ite_of_imp (fun _ => of_ite_of_imp (fun hm => ?_) fun _ => hP.setResetn h _) fun _ => h
  simp only [Bool.and_eq_true, beq_iff_eq] at hm
  exact hP.beginInventory (hP.setResetn h _) hm.1

theorem responseEnd (h : P s) : P s.responseEnd := by
  unfold State.responseEnd
  cases s.svc.rx with
  | responding => exact of_ite_of_imp (fun hw => hP.restartEvent h (Bool.and_eq_true_iff.mp hw).2) fun _ => hP.modSvc h _
  | idle | receiving | discarding => exact h

theorem respond {d : Decision} (h : P d.2) (kind : Byte) : P (State.respond kind d) :=
  hP.send (hP.modSvc h _) fun _ hc => (nomatch hc)

theorem droppedFrameEnd (h : P s) : P s.droppedFrameEnd := by
  unfold State.droppedFrameEnd
  split
  · exact hP.modSvc h _
  · exact hP.modSvc h _
  all_goals exact h

theorem byteGap (h : P s) : P s.byteGap := by
  unfold State.byteGap
  split
  · exact hP.modSvc h _
  · exact hP.droppedFrameEnd h
  · exact hP.droppedFrameEnd h
  · exact h

theorem startByte (h : P s) : P s.startByte := by
  unfold State.startByte
  split
  · exact hP.modSvc h _
  · exact hP.modSvc h _
  all_goals exact h

/-! #### The rows -/

theorem of_exec {c : Instr} (hc : runs c = true) (h : P s) (he : exec c s = .next t) : P t := by
  cases c with
  | powerOnReset | pornRise | readAttemptSuccess | crossing | status | readConnection | readNeighbour | readEvents | clearEvents
  | release | override | lock | hold | restart | ident | unknownRequestKind | malformedFrame => cases hc
  | readAttemptFailure | busHeldLowTimeout => exact of_next (of_powered h (hP.attemptReadFailed h)) he
  | readRetryWaitExpiry => exact of_next (of_powered h (hP.readRetry h)) he
  | resetnFall => exact of_next (hP.resetnFall h) he
  | resetnRise => exact of_next (hP.resetnRise h) he
  | secondsTick => exact of_next (of_powered h (hP.secondsTick h)) he
  | crossingWatchExpiry p =>
    exact of_next (of_powered h (of_ite_of_imp (fun _ => hP.phaseLoss h p) fun _ => h)) he
  | dataReady w => exact of_next (of_powered h (hP.dataReady h w)) he
  | recordAbandoned => exact of_next (of_powered h (hP.setReading none h)) he
  | acceptedRecord readings volts =>
    refine of_next (of_powered h ?_) he
    split
    · exact hP.acceptRecord h _ readings volts
    · exact h
  | measurementStale => exact of_next (of_powered h (hP.ageEnd h)) he
  | dwellEnd i => exact of_next (of_powered h (hP.dwellEnd h i)) he
  | recoveryRetryDue i => exact of_next (of_powered h (of_ite_of_imp (fun _ => hP.arbitrate h) fun _ => h)) he
  | ready i path good => exact of_next (of_powered h (hP.ready h i path good)) he
  | notReady i good => exact of_next (of_powered h (hP.notReady h i good)) he
  | opened i good => exact of_next (of_powered h (hP.opened h i good)) he
  | nak i good => exact of_next (of_powered h (hP.nak h i good)) he
  | closed i p good => exact of_next (of_powered h (hP.closed h i p good)) he
  | queryAnswer i path good => exact of_next (of_powered h (hP.queryAnswer h i path good)) he
  | armTimeout => exact of_next (of_powered h (hP.armTimeout h)) he
  | breakTimeout => exact of_next (of_powered h (hP.breakTimeout h)) he
  | closedTimeout => exact of_next (of_powered h (hP.closedTimeout h)) he
  | queryTimeout => exact of_next (of_powered h (hP.queryTimeout h)) he
  | gapLimit => exact of_next (of_powered h (hP.gapLimit h)) he
  | fallbackWaitLimit => exact of_next (of_powered h (hP.fallbackWaitLimit h)) he
  | recoveryWaitLimit => exact of_next (of_powered h (hP.recoveryWaitLimit h)) he
  | samplingWindowEnd => exact of_next (of_powered h (hP.samplingEnd h)) he
  | monitoringWindowEnd => exact of_next (of_powered h (hP.monitoringEnd h)) he
  | throttleExpiry => exact of_next (of_powered h (hP.throttleEnd h)) he
  | lcdActive => exact of_next (of_ite_of_imp (fun _ => hP.setLcd h _) fun _ => hP.lcdRise h) he
  | lcdInactive => exact of_next (of_ite_of_imp (fun _ => hP.setLcd h _) fun _ => hP.lcdFall h) he
  | loadFrame bytes | intentFrame bytes | outcomeFrame bytes | holdFrame bytes | discardedFrame bytes =>
    exact of_next (of_powered h (hP.receiveFrame h bytes)) he
  | staleAge slot => exact of_next (of_powered h (hP.staleAge h slot)) he
  | forgetAge slot => exact of_next (of_powered h (hP.forgetAge h slot)) he
  | intentLifetimeEnd slot => exact of_next (of_powered h (hP.intentLifetimeEnd h slot)) he
  | peerHoldEnd slot => exact of_next (of_powered h (hP.peerHoldEnd h slot)) he
  | quietGap => exact of_next (of_powered h (hP.quietGap h)) he
  | deferralEnd => exact of_next (of_powered h (hP.deferralEnd h)) he
  | transmissionComplete => exact of_next (of_powered h (hP.transmissionComplete h)) he
  | holdRemainingEnd => exact of_next (of_powered h (hP.holdRemainingEnd h)) he
  | evaluationTimerExpiry => exact of_next (of_powered h (hP.evaluationExpiry h)) he
  | reportTimerExpiry => exact of_next (of_powered h (hP.reportExpiry h)) he
  | announceLimitExpiry => exact of_next (of_powered h (hP.announceExpiry h)) he
  | listenTimerExpiry => exact of_next (of_powered h (hP.listenExpiry h)) he
  | ownLifetimeExpiry => exact of_next (of_powered h (hP.lifetimeExpiry h)) he
  | ownHoldEnd => exact of_next (of_powered h h) he
  | listenOnlyTimerExpiry => exact of_next (of_powered h (hP.listenOnlyExpiry h)) he
  | serviceByteGap => exact of_next (of_powered h (hP.byteGap h)) he
  | overrun => exact of_next (of_powered h (hP.startByte h)) he
  | responseEnd => exact of_next (of_powered h (hP.responseEnd h)) he
  | droppedFrameEnd => exact of_next (of_powered h (hP.droppedFrameEnd h)) he

/-! #### What a crossing brings to the counter and the access -/

theorem referenceCrossing (h : P s) (p : Phase) : P (s.referenceCrossing p) := by
  have htime (f : Time → Time) : P (s.modTime f) := hP.ignored h rfl rfl rfl rfl rfl rfl rfl rfl rfl
  exact of_ite_of_imp (fun _ => htime _) fun _ => of_ite_of_imp (fun _ => htime _) fun _ => hP.cyclesPass 1 (htime _)

theorem crossingCounted (h : P s) (p : Phase) (e : Edge) : P (s.crossingCounted p e) := by
  simp only [State.crossingCounted]
  refine of_ite_of_imp (fun _ => of_ite_of_imp (fun _ => hP.referenceCrossing ?_ p) fun _ => ?_) fun _ => ?_
  all_goals exact hP.ignored h rfl rfl rfl rfl rfl rfl rfl rfl rfl

end KeptWhileRunning

/-! ### Every row but a crossing, and every step -/

/-- A property that every row keeps, a crossing aside. -/
structure KeptByRows (P : State → Prop) : Prop extends KeptWhileRunning P where
  powerOn : ∀ {s : State}, P s → P s.powerOn
  endLoading : ∀ {s : State} (im : List Byte), P s → s.mode = .loading → P (s.endLoading (clampImage im))
  overrides : ∀ {s : State} (b : Bool) (l : List (Option Attr)), P s →
    P { s with station := { s.station with overridesOpen := b, overrides := l } }

namespace KeptByRows

variable (hP : KeptByRows P)
include hP

theorem pornRise (h : P s) : P s.pornRise :=
  of_ite_of_imp (fun _ => hP.beginRead (hP.ignored (hP.powerOn h) rfl rfl rfl rfl rfl rfl rfl rfl rfl)) fun _ => h

theorem imageReadIn (h : P s) (image : List Byte) : P (s.imageReadIn image) := by
  refine of_ite_of_imp (fun hr => ?_) fun _ => h
  simp only [State.loaderReading, Bool.and_eq_true, beq_iff_eq] at hr
  exact of_ite_of_imp (fun _ => hP.endLoading image h hr.1) fun _ => hP.enterConfigFault h hr.1

theorem decision {d : List Byte → State → Decision} (h : P s) (hd : d ∈ decisions) (p : List Byte) : P (d p s).2 := by
  rcases decision_cases hd p s with ⟨fl, v, b, l, he⟩ | ⟨hw, hm, i, -, -, he⟩ | ⟨ha, n, hn, -, he⟩ <;> rw [he]
  · exact hP.ignored (hP.overrides b l h) rfl rfl rfl rfl rfl rfl rfl rfl rfl
  · exact hP.release h i hw hm
  · exact hP.issueHold _ h ha (.inr hn)

theorem takeFrameBytes (h : P s) (bytes : List Byte) : P (s.takeFrameBytes bytes) := by
  unfold State.takeFrameBytes
  split
  · split
    · exact hP.modSvc h _
    · exact hP.modSvc h _
    · unfold State.dropRest
      split
      · exact hP.modSvc (hP.respond (hP.decision h (decideKind_mem_decisions _) _) _) _
      · exact hP.respond (hP.decision h (decideKind_mem_decisions _) _) _
  · split
    · exact hP.modSvc h _
    · exact hP.modSvc h _
    · unfold State.dropRest
      split
      · exact hP.modSvc (hP.respond (hP.decision h (decideKind_mem_decisions _) _) _) _
      · exact hP.respond (hP.decision h (decideKind_mem_decisions _) _) _
  · exact hP.modSvc h _
  · exact h

theorem takeRequest {d : List Byte → State → Decision} (h : P s) (k : Byte) (p : List Byte) (hd : d ∈ decisions) :
    P (s.takeRequest k p d) := by
  refine of_ite_of_imp (fun _ => hP.takeFrameBytes h _) fun _ => ?_
  split
  · exact hP.respond (hP.decision h hd p) k
  · exact hP.respond (hP.decision h hd p) k
  · exact hP.modSvc h _
  · exact h

theorem of_exec {c : Instr} (hc : ∀ p e, c ≠ .crossing p e) (h : P s) (he : exec c s = .next t) : P t := by
  by_cases hruns : runs c = true
  · exact hP.toKeptWhileRunning.of_exec hruns h he
  · cases c with
    | crossing p e => exact absurd rfl (hc p e)
    | powerOnReset => exact of_next (hP.powerOn h) he
    | pornRise => exact of_next (hP.pornRise h) he
    | readAttemptSuccess image => exact of_next (of_powered h (hP.imageReadIn h image)) he
    | status p | readConnection p | readNeighbour p | readEvents p | clearEvents p | release p | override p | lock p | hold p
    | restart p | ident p =>
      exact of_next (of_powered h (hP.takeRequest h _ p (by simp [decisions]))) he
    | unknownRequestKind kind p =>
      exact of_next (of_powered h (hP.takeRequest h kind p (decideKind_mem_decisions kind))) he
    | malformedFrame bytes => exact of_next (of_powered h (hP.takeFrameBytes h bytes)) he
    | _ => exact absurd rfl hruns

theorem of_step (hcross : ∀ {s : State} (p : Phase) (e : Edge), P s → P (s.crossing p e)) (h : P s) (he : step s = .next t) : P t := by
  unfold step at he
  cases hp : s.pending with
  | nil =>
    rw [hp] at he
    refine of_next (of_powered h (of_ite_of_imp (fun _ => hP.cyclesPass 1 h) fun _ => h)) he
  | cons c rest =>
    rw [hp] at he
    have hrest : P { s with pending := rest } := hP.ignored h rfl rfl rfl rfl rfl rfl rfl rfl rfl
    by_cases hc : ∀ p e, c ≠ .crossing p e
    · exact hP.of_exec hc hrest he
    · simp only [not_forall, not_not] at hc
      obtain ⟨p, e, rfl⟩ := hc
      refine of_next (of_ite_of_imp (fun _ => ?_) fun _ => ?_) he
      · exact hP.ignored hrest rfl rfl rfl rfl rfl rfl rfl rfl rfl
      · exact hcross p e hrest

end KeptByRows


/-! ### The engine's rows, from the engine's operations -/

/-- A property that the engine's operations and the commands' keep. -/
structure KeptByCommands (P : State → Prop) : Prop extends KeptByOps P, KeptByEngine P where
  powerOn : ∀ {s : State}, P s → P s.powerOn
  endLoading : ∀ {s : State} (im : List Byte), P s → s.mode = .loading → P (s.endLoading (clampImage im))
  overrides : ∀ {s : State} (b : Bool) (l : List (Option Attr)), P s →
    P { s with station := { s.station with overridesOpen := b, overrides := l } }
  finishInventoryQuery : ∀ {s : State} {i n : Nat}, P s → s.engine.req = some (.inventory i n) → P (s.finishInventoryQuery i)
  budgetStart : ∀ {s : State}, P s → P s.budgetStart

namespace KeptByCommands

variable (hP : KeptByCommands P)
include hP

theorem ready (h : P s) (i : Nat) (path : Option Phase) (good : Bool) : P (s.ready i path good) := by
  unfold State.ready
  split
  next m _ =>
    refine of_ite_of_imp (fun _ => ?_) fun _ => h
    unfold State.readyTaken
    cases path with
    | none => exact hP.concludeMove h m _ _ _
    | some r =>
      exact of_ite_of_imp (fun _ => hP.enterBreaking (of_ite_of_imp (fun _ => h) fun _ => hP.budgetStart h) m)
        fun _ => hP.concludeMove h m _ _ _
  next => exact h

theorem inventoryAnswer {i n : Nat} (h : P s) (hr : s.engine.req = some (.inventory i n)) (a : Option (Option Phase)) :
    P (s.inventoryAnswer i a) :=
  hP.finishInventoryQuery (n := n) (hP.setFlagIf (hP.modConn i h (Conn.inventoried_keepsDwell _ a)) _ _) (by simpa using hr)

theorem queryTaken {r : Req} (h : P s) (hr : s.engine.req = some r) (path : Option Phase) : P (s.queryTaken r path) := by
  unfold State.queryTaken
  split
  next m =>
    cases m.step with
    | breakQuery =>
      cases path with
      | some x => exact hP.concludeMove h m _ _ _
      | none => exact hP.enterFallback (hP.setCur h _ _) m
    | arming | breakWait | breakSent | gap | making | fbWait | fbMake | settling => exact h
  next i _ =>
    cases path with
    | some x => exact hP.recoveredOn h i x _
    | none => exact hP.recoverDark h i
  next i _ => exact hP.releaseChecked h i _
  next i _ => exact hP.inventoryAnswer h hr _
  all_goals exact h

theorem queryAnswer (h : P s) (i : Nat) (path : Option Phase) (good : Bool) : P (s.queryAnswer i path good) := by
  unfold State.queryAnswer
  cases ha : s.answered i good with
  | some r => exact hP.queryTaken h (req_of_answered ha) path
  | none => exact h

theorem of_expired {r : Req} (h : P s) (he : s.expired = some (r, t)) : P t := by
  obtain ⟨q, -, -, -, rfl⟩ := s.expired_some r t he
  exact hP.cyclesPass q.left h

theorem armTimeout (h : P s) : P s.armTimeout := by
  unfold State.armTimeout
  split
  next he => exact of_ite_of_imp (fun _ => hP.concludeMove (hP.of_expired h he) _ _ _ _) fun _ => h
  next => exact h

theorem breakTimeout (h : P s) : P s.breakTimeout := by
  unfold State.breakTimeout
  split
  next he => exact of_ite_of_imp (fun _ => hP.sendBreakQuery (hP.of_expired h he) _) fun _ => h
  next => exact h

theorem closedTimeout (h : P s) : P s.closedTimeout := by
  unfold State.closedTimeout
  split
  next he => exact of_ite_of_imp (fun _ => hP.refused (hP.of_expired h he) _) fun _ => h
  next => exact h

theorem queryTimeout (h : P s) : P s.queryTimeout := by
  unfold State.queryTimeout
  split
  next he => exact of_ite_of_imp (fun _ => hP.concludeMove (hP.of_expired h he) _ _ _ _) fun _ => h
  next he => exact hP.attemptFailed (hP.setFlag (hP.of_expired h he) _) _
  next he => exact hP.releaseChecked (hP.of_expired h he) _ _
  next he =>
    exact hP.inventoryAnswer (hP.of_expired h he) (req_of_expired he) _
  all_goals exact h

theorem gapLimit (h : P s) : P s.gapLimit := by
  unfold State.gapLimit
  split
  next he => exact of_ite_of_imp (fun _ => hP.enterFallback (hP.of_expired h he) _) fun _ => h
  next => exact h

theorem fallbackWaitLimit (h : P s) : P s.fallbackWaitLimit := by
  unfold State.fallbackWaitLimit
  split
  next m _ he =>
    cases m.step with
    | fbWait => exact hP.failFallback (hP.of_expired h he) m
    | arming | breakWait | breakSent | breakQuery | gap | making | fbMake | settling => exact h
  next => exact h

theorem recoveryWaitLimit (h : P s) : P s.recoveryWaitLimit := by
  unfold State.recoveryWaitLimit
  split
  next he => exact hP.attemptFailed (hP.of_expired h he) _
  next => exact h

/-- The rows of the engine follow from its operations. -/
theorem rows : KeptByRows P where
  toKeptByOps := hP.toKeptByOps
  powerOn h := hP.powerOn h
  endLoading im h hm := hP.endLoading im h hm
  overrides b l h := hP.overrides b l h
  send h ho := hP.send h ho
  rescueEmptied h := hP.rescueEmptied h
  issueHold r h ha hn := hP.issueHold r h ha hn
  dwellEnd h i := hP.modConn i h Conn.dwellEnd_keepsDwell
  arbitrate h := hP.arbitrate h
  endSettling h := hP.endSettling h
  engineLoss h x := hP.engineLoss h x
  release h i _ _ := hP.release h i
  ready h i path good := hP.ready h i path good
  notReady h i good := hP.notReady h i good
  opened h i good := hP.opened h i good
  nak h i good := hP.nak h i good
  closed h i x good := hP.closed h i x good
  queryAnswer h i path good := hP.queryAnswer h i path good
  armTimeout h := hP.armTimeout h
  breakTimeout h := hP.breakTimeout h
  closedTimeout h := hP.closedTimeout h
  queryTimeout h := hP.queryTimeout h
  gapLimit h := hP.gapLimit h
  fallbackWaitLimit h := hP.fallbackWaitLimit h
  recoveryWaitLimit h := hP.recoveryWaitLimit h

theorem of_exec {c : Instr} (hc : ∀ p e, c ≠ .crossing p e) (h : P s) (he : exec c s = .next t) : P t := hP.rows.of_exec hc h he

/-! #### A crossing, where any command may be sent -/

theorem crossing (hsend : ∀ {s : State} (c : ModCmd), P s → P (s.sendCommand c)) (h : P s) (p : Phase) (e : Edge) :
    P (s.crossing p e) := by
  have hcounted := hP.rows.crossingCounted h p e
  rw [crossing_eq]
  generalize s.crossingCounted p e = t at hcounted
  unfold State.engineCrossing
  split
  next m _ =>
    cases m.step with
    | breakWait => exact of_ite_of_imp (fun _ => hP.sendBreak hcounted m) fun _ => hcounted
    | gap => exact of_ite_of_imp (fun _ => hsend _ (hP.atStep hcounted m _ _)) fun _ => hcounted
    | fbWait => exact of_ite_of_imp (fun _ => hsend _ (hP.atStep hcounted m _ _)) fun _ => hcounted
    | arming | breakSent | breakQuery | making | fbMake | settling => exact hcounted
  next => exact of_ite_of_imp (fun _ => hsend _ (hP.setReq hcounted rfl)) fun _ => hcounted
  all_goals exact hcounted

theorem of_step (hsend : ∀ {s : State} (c : ModCmd), P s → P (s.sendCommand c)) (h : P s) (he : step s = .next t) : P t :=
  hP.rows.of_step (fun p e h => hP.crossing hsend h p e) h he

end KeptByCommands

end Sys2Proof.Machine


/-! What a command sends: outside a crossing never a MAKE, and at a crossing the MAKE a sound request holds for it, on an allowed phase
of a connection believed open (R71). -/

namespace Sys2Proof.Machine

variable {s t s₀ : State}

/-! ### Sending no MAKE -/

/-- All that `t` has sent beyond what `s` had is no MAKE. -/
def State.NoMakeSince (s t : State) : Prop :=
  ∃ new : List Output, t.out = new ++ s.out ∧ ∀ c, .command c ∈ new → c.closes = false

theorem noMakeSince_refl (s : State) : s.NoMakeSince s := ⟨[], rfl, fun _ hc => (nomatch hc)⟩

theorem State.NoMakeSince.of_out (h : s₀.NoMakeSince s) (ho : t.out = s.out) : s₀.NoMakeSince t := by
  rw [State.NoMakeSince, ho]
  exact h

theorem State.NoMakeSince.send {o : Output} (h : s₀.NoMakeSince s) (ho : ∀ c, o = .command c → c.closes = false) :
    s₀.NoMakeSince (s.send o) := by
  obtain ⟨new, hnew, hmake⟩ := h
  refine ⟨o :: new, by simp [hnew], fun c hc => ?_⟩
  rcases List.mem_cons.mp hc with he | hc
  · exact ho c he.symm
  · exact hmake c hc

theorem noMakeSince_keptByEngine (s₀ : State) : KeptByEngine s₀.NoMakeSince where
  ignored h _ _ _ _ _ _ _ _ ho := h.of_out ho
  setReq h _ := h
  inventory _ _ h _ := h
  send h ho := h.send ho
  modConn _ h _ := h
  modHeld _ h := h
  popRescue h := h
  rescueEmptied h := h.of_out (by simp)
  recordConclusion _ _ h := h.of_out (by simp)
  appendStranded _ h := h.of_out (by simp)
  planResult _ _ h := h.of_out (by simp)
  issueHold _ h _ _ := h.of_out (by simp)

theorem State.NoMakeSince.startTransmission (h : s₀.NoMakeSince s) : s₀.NoMakeSince s.startTransmission := by
  unfold State.startTransmission
  split
  · exact State.NoMakeSince.send (h.of_out rfl) fun _ hc => (nomatch hc)
  · exact h.of_out rfl

theorem State.NoMakeSince.gapComplete (h : s₀.NoMakeSince s) : s₀.NoMakeSince s.gapComplete := by
  unfold State.gapComplete
  split
  · split
    · exact of_ite_of_imp (fun _ => State.NoMakeSince.startTransmission (h.of_out rfl)) fun _ => h.of_out rfl
    · exact h.of_out rfl
  · exact h.of_out rfl
  all_goals exact h

theorem State.NoMakeSince.accessCycle (h : s₀.NoMakeSince s) : s₀.NoMakeSince s.accessCycle := by
  unfold State.accessCycle
  split
  · exact of_ite_of_imp (fun _ => h.gapComplete) fun _ => h.of_out rfl
  · exact of_ite_of_imp (fun _ => h.gapComplete) fun _ => h.of_out rfl
  · exact of_ite_of_imp (fun _ => h.startTransmission) fun _ => h.of_out rfl
  all_goals exact h

theorem State.NoMakeSince.accessCycles (h : s₀.NoMakeSince s) (n : Nat) : s₀.NoMakeSince (s.accessCycles n) := by
  induction n generalizing s with
  | zero => exact h
  | succ n ih => exact ih h.accessCycle

theorem noMakeSince_keptByTable (s₀ : State) : KeptByTable s₀.NoMakeSince where
  toBlindToTheRest := (noMakeSince_keptByEngine s₀).toBlindToTheRest
  filterPrec _ h := h
  releasePlanner h := by
    refine of_ite_of_imp (fun _ => (noMakeSince_keptByEngine s₀).arbitrate ?_) fun _ => ?_
    · exact h.of_out (by simp)
    · exact h.of_out (by simp)
  onPeerIntent h := h.of_out (by simp)
  onSetback _ h := h.of_out (by simp)
  withdraw h _ := h.of_out (by simp)
  endAssembly h := h.of_out (by simp)

theorem State.NoMakeSince.beginInventory (h : s₀.NoMakeSince s) : s₀.NoMakeSince s.beginInventory :=
  (noMakeSince_keptByEngine s₀).arbitrate (h.of_out rfl)

theorem State.NoMakeSince.ageEnd (h : s₀.NoMakeSince s) : s₀.NoMakeSince s.ageEnd :=
  of_ite_of_imp (fun _ => (noMakeSince_keptByEngine s₀).endSettling (h.of_out (by simp))) fun _ => h

theorem State.NoMakeSince.cyclesPass (h : s₀.NoMakeSince s) (n : Nat) : s₀.NoMakeSince (s.cyclesPass n) := by
  have hcounted : s₀.NoMakeSince { s with engine := { s.engine with req := s.engine.req.map (Req.count n) } } := h.of_out rfl
  exact hcounted.accessCycles n

theorem noMakeSince_keptByCommands (s₀ : State) : KeptByCommands s₀.NoMakeSince where
  __ := noMakeSince_keptByTable s₀
  __ := noMakeSince_keptByEngine s₀
  powerOn h := h
  setLoader _ _ h := h
  enterConfigFault h _ := h
  endLoading _ h _ := State.NoMakeSince.beginInventory (h.of_out (by simp))
  beginInventory h _ := h.beginInventory
  restartEvent h _ := State.NoMakeSince.beginInventory (h.of_out rfl)
  cyclesPass n h := h.cyclesPass n
  second h := ((noMakeSince_keptByTable s₀).tableSecond (s := State.countSecond _) (h.of_out rfl)).ageEnd
  appendSelected _ h := h.of_out (by simp)
  filterRescue _ h := h
  enterBlackout h _ := (noMakeSince_keptByEngine s₀).abandonRequest (h.of_out (by simp))
  listenAgain _ h _ := h
  enterActive h _ := (noMakeSince_keptByEngine s₀).arbitrate (h.of_out (by simp))
  finishInventoryQuery h _ :=
    of_ite_of_imp (fun _ => (noMakeSince_keptByEngine s₀).arbitrate (h.of_out rfl))
      fun _ => (noMakeSince_keptByEngine s₀).arbitrate (h.of_out rfl)
  setReading _ h := h
  recordTaken _ _ h := h.of_out (by simp)
  evalOnTrigger h := h.of_out (by simp)
  ageEnd h := h.ageEnd
  budgetStart h := h.of_out (by simp)
  samplingEnd h := h
  monitoringEnd h := h
  throttleEnd h := h
  lcdRise h := h.of_out (by simp)
  lcdFall h := h.of_out (by simp)
  gapComplete h := h.gapComplete
  startTransmission h _ := h.startTransmission
  transmissionComplete h := h.of_out (by simp)
  holdRemainingEnd h := h.of_out (by simp)
  evaluationExpiry h := h.of_out (by simp)
  reportExpiry h := h.of_out (by simp)
  announceExpiry h := h.of_out (by simp)
  listenExpiry h :=
    of_ite_of_imp (fun _ => of_ite_of_imp (fun _ => (noMakeSince_keptByTable s₀).releasePlanner h) fun _ => h) fun _ => h
  overrides _ _ h := h

/-! ### The MAKE a sound request holds for a crossing -/

/-- The phase on which a request holds a MAKE for its crossing, with the connection (R66, R68, R73). -/
def Req.heldMake : Req → Option (Nat × Phase)
  | .move m =>
    match m.step with
    | .gap => some (m.conn, m.dst)
    | .fbWait x => some (m.conn, x)
    | .arming | .breakWait | .breakSent | .breakQuery | .making | .fbMake _ | .settling => none
  | .recovery i (.wait x) _ => some (i, x)
  | .recovery _ .query _ | .recovery _ (.make _) _ | .check _ _ | .inventory _ _ => none

@[simp] theorem Req.heldMake_count (n : Nat) (r : Req) : (r.count n).heldMake = r.heldMake := by
  rcases r with m | ⟨i, _ | _ | _, k⟩ | _ | _ <;> rfl

/-- A connection in recovery is believed open (R31). -/
theorem Conn.cur_of_sound_dark {configured : Bool} {allowed : Phase → Bool} {c : Conn} (h : c.sound configured allowed = true)
    (hd : c.st = .dark) : c.cur = none := by
  simp only [Conn.sound, hd, Bool.and_eq_true, Option.isNone_iff_eq_none] at h
  tauto

/-- The MAKE a sound request holds is for an allowed phase of a connection believed open. -/
theorem State.Sound.heldMake {r : Req} {i : Nat} {p : Phase} (h : s.Sound) (hr : s.engine.req = some r)
    (hm : r.heldMake = some (i, p)) : s.allows i p = true ∧ (s.conn i).cur = none := by
  obtain ⟨-, -, hrecord, -, hreq, -⟩ := h
  rw [hr] at hreq
  rcases r with m | ⟨j, st, k⟩ | _ | _
  · simp only [State.reqSound, Bool.and_eq_true] at hreq
    obtain ⟨⟨⟨-, hdst⟩, hcur⟩, htarget⟩ := hreq
    simp only [Req.heldMake] at hm
    cases hst : m.step <;> simp only [hst, Option.some.injEq, Prod.mk.injEq, reduceCtorEq] at hm <;>
      obtain ⟨rfl, rfl⟩ := hm <;> simp only [MoveReq.curOk, MoveReq.targetOk, hst, Option.isNone_iff_eq_none] at hcur htarget
    · exact ⟨hdst, hcur⟩
    · exact ⟨htarget, hcur⟩
  · simp only [State.reqSound, Bool.and_eq_true, beq_iff_eq] at hreq
    obtain ⟨⟨-, hdark⟩, htarget⟩ := hreq
    cases st with
    | wait x =>
      cases hm
      exact ⟨htarget, Conn.cur_of_sound_dark (hrecord _) hdark⟩
    | query | make => cases hm
  · cases hm
  · cases hm

/-- A crossing leaves the records as they were, and the request but for its count, until the engine takes it. -/
theorem crossingCounted_spec (p : Phase) (e : Edge) (s : State) :
    (s.crossingCounted p e).conns = s.conns ∧ ∃ n, (s.crossingCounted p e).engine.req = s.engine.req.map (Req.count n) := by
  have hzero : s.engine.req = s.engine.req.map (Req.count 0) := by
    have : Req.count 0 = id := by
      funext r
      cases r <;> rfl
    simp [this]
  simp only [State.crossingCounted]
  split
  · split
    · refine ⟨by simp, ?_⟩
      unfold State.referenceCrossing
      split
      · exact ⟨0, hzero⟩
      · split
        · exact ⟨0, hzero⟩
        · exact ⟨1, by simp⟩
    · exact ⟨rfl, 0, hzero⟩
  · exact ⟨rfl, 0, hzero⟩

/-- What the engine sends at a crossing is a BREAK or the MAKE held for it. -/
theorem engineCrossing_out (p : Phase) (s : State) :
    s.NoMakeSince (s.engineCrossing p)
      ∨ ∃ r i x, s.engine.req = some r ∧ r.heldMake = some (i, x) ∧ (s.engineCrossing p).out = .command (.make i x) :: s.out := by
  have hsame := noMakeSince_refl s
  unfold State.engineCrossing
  split
  next m hr =>
    cases hst : m.step with
    | breakWait => exact .inl (of_ite_of_imp (fun _ => (noMakeSince_keptByEngine s).sendBreak hsame m) fun _ => hsame)
    | gap =>
      dsimp only
      split
      · exact .inr ⟨_, m.conn, m.dst, hr, by simp [Req.heldMake, hst], by simp⟩
      · exact .inl hsame
    | fbWait x =>
      dsimp only
      split
      · exact .inr ⟨_, m.conn, x, hr, by simp [Req.heldMake, hst], by simp⟩
      · exact .inl hsame
    | arming | breakSent | breakQuery | making | fbMake | settling => exact .inl hsame
  next i x n hr =>
    split
    · exact .inr ⟨_, i, x, hr, rfl, by simp⟩
    · exact .inl hsame
  all_goals exact .inl hsame

/-- What a crossing sends in a sound state. -/
theorem State.Sound.crossing_out (h : s.Sound) (p : Phase) (e : Edge) :
    ∃ new : List Output, (s.crossing p e).out = new ++ s.out
      ∧ ∀ i x, .command (.make i x) ∈ new → s.allows i x = true ∧ (s.conn i).cur = none := by
  obtain ⟨first, hfirst, hnone⟩ := (noMakeSince_keptByCommands s).rows.crossingCounted (noMakeSince_refl s) p e
  rw [crossing_eq]
  rcases engineCrossing_out p (s.crossingCounted p e) with ⟨then_, hthen, hnone'⟩ | ⟨r, i, x, hr, hm, hout⟩
  · refine ⟨then_ ++ first, by rw [hthen, hfirst, List.append_assoc], fun i x hx => ?_⟩
    rcases List.mem_append.mp hx with hx | hx
    · exact nomatch hnone' _ hx
    · exact nomatch hnone _ hx
  · refine ⟨.command (.make i x) :: first, by rw [hout, hfirst, List.cons_append], fun j y hy => ?_⟩
    rcases List.mem_cons.mp hy with hy | hy
    · cases hy
      obtain ⟨-, n, hn⟩ := crossingCounted_spec p e s
      obtain ⟨q, hq, rfl⟩ := Option.map_eq_some_iff.mp (hn.symm.trans hr)
      exact h.heldMake hq (by simpa using hm)
    · exact nomatch hnone _ hy

@[simp] theorem engineCrossing_conns (p : Phase) (s : State) : (s.engineCrossing p).conns = s.conns := by
  unfold State.engineCrossing
  (repeat' split) <;> simp

end Sys2Proof.Machine

namespace Sys2Proof.Proofs

open Sys2Proof.Machine

/-- Settles O31: no command but a crossing sends a MAKE, and a crossing the one a sound request holds for it. -/
theorem makeOnlyOnAllowedOpenConnection : Obligations.MakeOnlyOnAllowedOpenConnection := by
  intro c s t hs he
  by_cases hc : ∀ p e, c ≠ .crossing p e
  · obtain ⟨new, hnew, hnone⟩ := (noMakeSince_keptByCommands s).of_exec hc (noMakeSince_refl s) he
    exact ⟨new, hnew, fun i p hp => nomatch hnone _ hp⟩
  · simp only [not_forall, not_not] at hc
    obtain ⟨p, e, rfl⟩ := hc
    cases he
    split
    · exact ⟨[], rfl, fun _ _ hp => nomatch hp⟩
    · obtain ⟨new, hnew, hmake⟩ := hs.crossing_out p e
      refine ⟨new, hnew, fun i x hx => ?_⟩
      obtain ⟨hallowed, hopen⟩ := hmake i x hx
      have hconns : (s.crossing p e).conns = s.conns := by
        rw [crossing_eq, engineCrossing_conns, (crossingCounted_spec p e s).1]
      refine ⟨hallowed, hopen, ?_⟩
      rwa [State.conn, hconns]

end Sys2Proof.Proofs


/-! Outside ACTIVE the station is quiet (R77, R78, R101, R107, R146): with nothing queued, the planner at rest and no rescue listed,
every shared operation finds nothing to do, so calm is a case of the traversal. -/

namespace Sys2Proof.Machine

variable {s t : State}

theorem Line.quiet_iff {l : Line} :
    l.quiet = true ↔ l.qHold = none ∧ l.qOutcome = none ∧ l.qIntent = none ∧ l.qLoad = none ∧ l.access = .idle ∧ l.tx = none := by
  simp [Line.quiet, and_assoc]

theorem Planner.atRest_iff {p : Planner} :
    p.atRest = true ↔ p.st = .idle ∧ p.plan = none ∧ p.noted = [] ∧ p.prec = [] ∧ p.evalT = none ∧ p.reportT = none
      ∧ p.announceT = none ∧ p.listenT = none ∧ p.lifetimeT = none := by
  simp [Planner.atRest, and_assoc]

/-- Nothing queued, the planner at rest, no rescue listed or marked done. -/
def State.Quiet (s : State) : Prop :=
  s.line.quiet = true ∧ s.planner.atRest = true ∧ s.engine.rescue = [] ∧ s.engine.rescueDone = false

/-- Calm outside ACTIVE, with an inventory query in flight in INVENTORY alone: what a query's end then knows of the mode. -/
structure State.CalmByMode (s : State) : Prop where
  quiet : s.mode ≠ .active → s.Quiet
  inventory : ∀ i n, s.engine.req = some (.inventory i n) → s.mode = .inventory

/-- An operation that leaves the mode and the request as they are has only to keep the quiet. -/
theorem State.CalmByMode.of_quiet (h : s.CalmByMode) (hm : t.mode = s.mode) (hr : t.engine.req = s.engine.req)
    (hq : s.Quiet → t.Quiet) : t.CalmByMode where
  quiet hne := hq (h.quiet (hm ▸ hne))
  inventory i n hi := hm.trans (h.inventory i n (hr ▸ hi))

/-- A station that quiet leaves as it was. -/
theorem State.CalmByMode.of_same (h : s.CalmByMode) (hm : t.mode = s.mode) (hr : t.engine.req = s.engine.req)
    (hq : s.Quiet → t.line = s.line ∧ t.planner = s.planner ∧ t.engine = s.engine) : t.CalmByMode := by
  refine h.of_quiet hm hr fun h => ?_
  obtain ⟨hl, hp, he⟩ := hq h
  rwa [State.Quiet, hl, hp, he]

/-- What is done in ACTIVE alone. -/
theorem State.CalmByMode.of_active (h : s.CalmByMode) (hm : t.mode = s.mode) (hr : t.engine.req = s.engine.req)
    (hactive : s.isActive = true) : t.CalmByMode where
  quiet hne := by simp_all [State.isActive]
  inventory i n hi := hm.trans (h.inventory i n (hr ▸ hi))

/-- A change of mode outside INVENTORY, with the station quiet afterwards. -/
theorem State.CalmByMode.of_mode (h : s.CalmByMode) (hm : s.mode ≠ .inventory) (hr : t.engine.req = s.engine.req)
    (hq : t.mode ≠ .active → t.Quiet) : t.CalmByMode where
  quiet := hq
  inventory i n hi := absurd (h.inventory i n (hr ▸ hi)) hm

/-- A state with no request. -/
theorem calmByMode_of_free (hr : s.engine.req = none) (hq : s.mode ≠ .active → s.Quiet) : s.CalmByMode where
  quiet := hq
  inventory i n hi := by simp [hr] at hi

/-! ### What quiet leaves an operation to do -/

theorem State.Quiet.access (h : s.Quiet) : s.line.access = .idle := (Line.quiet_iff.mp h.1).2.2.2.2.1

theorem State.Quiet.st (h : s.Quiet) : s.planner.st = .idle := (Planner.atRest_iff.mp h.2.1).1

theorem State.Quiet.plan (h : s.Quiet) : s.planner.plan = none := (Planner.atRest_iff.mp h.2.1).2.1

theorem State.Quiet.rescueEmptied (h : s.Quiet) : s.rescueEmptied = s := by
  obtain ⟨-, -, -, hdone⟩ := h
  simp [State.rescueEmptied, hdone]

theorem State.Quiet.planResult (h : s.Quiet) (k : Nat) (r : MoveResult) : s.planResult k r = s := by
  simp [State.planResult, h.plan]

theorem State.Quiet.onPeerIntent (h : s.Quiet) : s.onPeerIntent = s := by simp [State.onPeerIntent, h.st]

theorem State.Quiet.onSetback (h : s.Quiet) (n : Noted) : s.onSetback n = s := by simp [State.onSetback, h.st]

theorem State.Quiet.recheck (h : s.Quiet) : s.recheck = s := by simp [State.recheck, h.plan]

theorem State.Quiet.accessCycle (h : s.Quiet) : s.accessCycle = s := by simp [State.accessCycle, h.access]

theorem State.Quiet.accessCycles (h : s.Quiet) (n : Nat) : s.accessCycles n = s := by
  induction n with
  | zero => rfl
  | succ n ih => rw [State.accessCycles, h.accessCycle, ih]

/-- A queue with nothing in it has no unripe OUTCOME. -/
theorem Line.quiet_ripen {l : Line} (h : l.quiet = true) (lcd : Bool) (v : Vec) :
    Line.refresh lcd { l with qOutcome := l.qOutcome.map fun o => { o with vec := some (o.vec.getD v) } } = l := by
  obtain ⟨hhold, houtcome, hintent, hload, haccess, -⟩ := Line.quiet_iff.mp h
  rcases l with ⟨_, _, _, _, _, _, _, _⟩
  subst hhold houtcome hintent hload haccess
  rfl

theorem State.Quiet.ripen (h : s.Quiet) (v : Vec) : s.ripen v = s := by
  simp [State.ripen, State.modQueue, Line.quiet_ripen h.1]

theorem Line.quiet_second {l : Line} (h : l.quiet = true) (lcd : Bool) : l.second lcd = l := by
  simp [Line.second, (Line.quiet_iff.mp h).1]

theorem Planner.atRest_second {p : Planner} (h : p.atRest = true) : p.second.atRest = true := by
  rw [Planner.atRest_iff] at h ⊢
  simp [Planner.second, tickTimer, h]

theorem Planner.leaveActive_atRest (p : Planner) : p.leaveActive.atRest = true := by
  simp [Planner.atRest_iff, Planner.leaveActive, Planner.cleared]

theorem State.Quiet.of_carrier {a : Access} {x : Assembly} {p : Pins} (h : s.Quiet) (ha : a = .idle) :
    State.Quiet { s with pins := p, line := { s.line with access := a, assembly := x } } := by
  obtain ⟨hline, hrest⟩ := h
  refine ⟨?_, hrest⟩
  rw [Line.quiet_iff] at hline ⊢
  simp [hline, ha]

theorem State.Quiet.lcdRise (h : s.Quiet) : s.lcdRise.Quiet :=
  of_ite_of_imp (fun _ => h) fun _ => h.of_carrier (by simp [h.access, Access.carrier])

theorem State.Quiet.lcdFall (h : s.Quiet) : s.lcdFall.Quiet :=
  of_ite_of_imp (fun _ => h.of_carrier (by simp [h.access, Access.carrierGone])) fun _ => h

theorem State.Quiet.endAssembly (h : s.Quiet) : s.endAssembly.Quiet := by
  have hfall := h.lcdFall
  exact hfall.of_carrier hfall.access

/-- Outside ACTIVE no connection is appended to the rescue list (R76). -/
theorem appendStranded_of_not_active (ha : s.isActive = false) (i : Nat) : s.appendStranded i = s := by
  unfold State.appendStranded
  split
  · simp [ha]
  · rfl

/-- Outside ACTIVE the conclusion of a move leaves the engine as it was (R76, R78). -/
theorem recordConclusion_engine_of_not_active (ha : s.isActive = false) (m : MoveReq) (k : Conclusion) :
    (s.recordConclusion m k).engine = s.engine := by
  have hstill : ((s.modConn m.conn (Conn.conclude m.rescue s.conf.dwell (s.allows m.conn) k)).modHeld m.conn
      fun h => { h with preMove := none }).isActive = false := ha
  simp only [State.recordConclusion, appendStranded_of_not_active hstill, ite_self, hstill]
  simp

theorem calmByMode_keptByEngine : KeptByEngine State.CalmByMode where
  ignored h hst _ _ _ he _ hl hp _ := h.of_same (by rw [State.mode, hst]; rfl) (by rw [he]) fun _ => ⟨hl, hp, he⟩
  setReq {s r} h hr :=
    { quiet := h.quiet
      inventory := fun i n hi => by
        rw [show (s.setReq r).engine.req = r from rfl] at hi
        simp [hi, Req.notInventory] at hr }
  inventory n k h hm := { quiet := h.quiet, inventory := fun _ _ _ => hm }
  send h _ := h.of_same rfl rfl fun _ => ⟨rfl, rfl, rfl⟩
  modConn _ h _ := h.of_same rfl rfl fun _ => ⟨rfl, rfl, rfl⟩
  modHeld _ h := h.of_same rfl rfl fun _ => ⟨rfl, rfl, rfl⟩
  popRescue h := h.of_quiet rfl rfl fun ⟨hl, hp, hlist, hdone⟩ => ⟨hl, hp, by simp [hlist], hdone⟩
  rescueEmptied h := h.of_quiet (by simp [State.mode]) (by simp) fun hq => hq.rescueEmptied.symm ▸ hq
  recordConclusion {s} m k h := by
    by_cases ha : s.isActive = true
    · exact h.of_active (by simp [State.mode]) (by simp) ha
    · rw [Bool.not_eq_true] at ha
      exact h.of_same (by simp [State.mode]) (by simp)
        fun _ => ⟨by simp, by simp, recordConclusion_engine_of_not_active ha m k⟩
  appendStranded {s} i h := by
    by_cases ha : s.isActive = true
    · exact h.of_active (by simp [State.mode]) (by simp) ha
    · rw [Bool.not_eq_true] at ha
      rwa [appendStranded_of_not_active ha]
  planResult k r h := h.of_quiet (by simp [State.mode]) (by simp) fun hq => (hq.planResult k r).symm ▸ hq
  issueHold _ h ha _ := h.of_active (by simp [State.mode]) (by simp) ha

theorem State.Quiet.modPlanner {f : Planner → Planner} (h : s.Quiet) (hf : (f s.planner).atRest = true) :
    (s.modPlanner f).Quiet := ⟨h.1, hf, h.2.2⟩

/-- A planner at rest has no plan to release (R138). -/
theorem State.Quiet.releasePlanner (h : s.Quiet) : s.releasePlanner = s.modPlanner fun p => { p with listenT := none } := by
  simp [State.releasePlanner, State.recheck, h.plan]

theorem calmByMode_keptByTable : KeptByTable State.CalmByMode where
  toBlindToTheRest := calmByMode_keptByEngine.toBlindToTheRest
  filterPrec f h := h.of_quiet rfl rfl fun hq => hq.modPlanner (by
    rw [Planner.atRest_iff]
    simp [Planner.atRest_iff.mp hq.2.1])
  releasePlanner {s} h := by
    by_cases ha : s.isActive = true
    · refine of_ite_of_imp (fun _ => calmByMode_keptByEngine.arbitrate ?_) fun _ => ?_
      · exact h.of_active (by simp [State.mode]) (by simp) ha
      · exact h.of_active (by simp [State.mode]) (by simp) ha
    · have hq := h.quiet (by simpa [State.isActive] using ha)
      rw [hq.releasePlanner]
      refine h.of_quiet rfl rfl fun hq => hq.modPlanner ?_
      rw [Planner.atRest_iff]
      simp [Planner.atRest_iff.mp hq.2.1]
  onPeerIntent h := h.of_quiet (by simp [State.mode]) (by simp) fun hq => hq.onPeerIntent.symm ▸ hq
  onSetback n h := h.of_quiet (by simp [State.mode]) (by simp) fun hq => (hq.onSetback n).symm ▸ hq
  withdraw h hst := h.of_quiet (by simp [State.mode]) (by simp) fun hq => by simp [hq.st] at hst
  endAssembly h := h.of_quiet (by simp [State.mode]) (by simp) fun hq => hq.endAssembly

/-! ### The commands -/

/-- Only ACTIVE appends the connections on a lost phase (R53). -/
theorem appendSelected_of_not_active (ha : s.isActive = false) (x : Phase) : s.appendSelected x = s := by
  simp [State.appendSelected, ha]

/-- INVENTORY begins with no request, on a quiet station (R32). -/
theorem State.Quiet.beginInventory (h : s.Quiet) : s.beginInventory.CalmByMode :=
  calmByMode_keptByEngine.arbitrate (calmByMode_of_free rfl fun _ => h)

theorem State.CalmByMode.cyclesPass (h : s.CalmByMode) (n : Nat) : (s.cyclesPass n).CalmByMode where
  quiet hm := by
    have hq : s.Quiet := h.quiet (by simpa [State.mode] using hm)
    have hcounted : State.Quiet { s with engine := { s.engine with req := s.engine.req.map (Req.count n) } } := hq
    rwa [State.cyclesPass, hcounted.accessCycles]
  inventory i k hi := by
    rw [cyclesPass_req, Option.map_eq_some_iff] at hi
    obtain ⟨r, hr, hcount⟩ := hi
    rcases r with m | _ | _ | ⟨j, l⟩
    case inventory => simpa [State.mode] using h.inventory j l hr
    all_goals cases hcount

theorem State.CalmByMode.ageEnd (h : s.CalmByMode) : s.ageEnd.CalmByMode := by
  refine of_ite_of_imp (fun _ => calmByMode_keptByEngine.endSettling ?_) fun _ => h
  refine h.of_quiet (by simp [State.mode]) (by simp) fun hq => ?_
  have hstale : State.Quiet ({ s with meas := { s.meas with fresh := false } }.setFlag .measurementLost) := hq
  exact (hstale.ripen s.meas.vec).symm ▸ hstale

theorem State.CalmByMode.countSecond (h : s.CalmByMode) : s.countSecond.CalmByMode :=
  h.of_quiet rfl rfl fun hq =>
    ⟨(congrArg Line.quiet (Line.quiet_second hq.1 _)).trans hq.1, Planner.atRest_second hq.2.1, hq.2.2.1, hq.2.2.2⟩

theorem State.CalmByMode.enterBlackout (h : s.CalmByMode) (hm : s.mode ≠ .inventory) : s.enterBlackout.CalmByMode :=
  calmByMode_keptByEngine.abandonRequest
    (h.of_mode hm rfl fun _ => ⟨rfl, Planner.leaveActive_atRest _, rfl, rfl⟩)

theorem State.Quiet.snapshot (h : s.Quiet) (m : Meas) (k : Snapshot) :
    State.Quiet { s with meas := m, line := { s.line with snap := k } } := h

theorem State.CalmByMode.recordTaken (h : s.CalmByMode) (w : Byte) (rs : List Reading) : (s.recordTaken w rs).freshen.CalmByMode := by
  refine h.of_quiet (by simp [State.mode]) (by simp) fun hq => ?_
  simp only [State.recordTaken, State.takeSnapshot, State.deriveSums, State.takeReadings]
  rw [(hq.snapshot _ _).ripen]
  exact hq.snapshot _ _

theorem calmByMode_keptByCommands : KeptByCommands State.CalmByMode where
  __ := calmByMode_keptByTable
  __ := calmByMode_keptByEngine
  powerOn _ := calmByMode_of_free rfl fun _ => ⟨rfl, rfl, rfl, rfl⟩
  setLoader _ _ h := h.of_same rfl rfl fun _ => ⟨rfl, rfl, rfl⟩
  enterConfigFault h hm := h.of_mode (by simp [hm]) rfl fun _ => h.quiet (by simp [hm])
  endLoading im h hm := by
    have hq := h.quiet (by simp [hm])
    exact State.Quiet.beginInventory (by simpa [State.Quiet, State.setLoader, State.modStation] using hq)
  beginInventory h hm := (h.quiet (by simp [hm])).beginInventory
  restartEvent h _ := State.Quiet.beginInventory ⟨rfl, rfl, rfl, rfl⟩
  cyclesPass n h := h.cyclesPass n
  second h := (calmByMode_keptByTable.tableSecond h.countSecond).ageEnd
  appendSelected {s} x h := by
    by_cases ha : s.isActive = true
    · exact h.of_active (by simp [State.mode]) (by simp) ha
    · rwa [appendSelected_of_not_active (by simpa using ha)]
  filterRescue f h := h.of_quiet rfl rfl fun ⟨hl, hp, hlist, hdone⟩ => ⟨hl, hp, by simp [hlist], hdone⟩
  enterBlackout h hm := h.enterBlackout (by rcases hm with hm | hm <;> simp [hm])
  listenAgain n h hm :=
    h.of_mode (by rcases hm with hm | hm <;> simp [hm]) rfl fun _ => h.quiet (by rcases hm with hm | hm <;> simp [hm])
  enterActive h hm := calmByMode_keptByEngine.arbitrate
    (h.of_mode (by simp [hm]) (by simp) fun hne => absurd (by simp [State.mode, State.enterMode, State.modStation]) hne)
  finishInventoryQuery {s i n} h hr := by
    have hq : s.Quiet := h.quiet (by simp [h.inventory i n hr])
    have hfree (m : Mode) (t : Option Nat) :
        ((s.modEngine fun e => { e with req := none, invNext := i + 1 }).enterMode m t).CalmByMode :=
      calmByMode_of_free rfl fun _ => hq
    refine of_ite_of_imp (fun _ => calmByMode_keptByEngine.arbitrate ?_) fun _ => calmByMode_keptByEngine.arbitrate (hfree _ _)
    exact calmByMode_of_free rfl fun _ => hq
  setReading _ h := h.of_same rfl rfl fun _ => ⟨rfl, rfl, rfl⟩
  recordTaken w rs h := h.recordTaken w rs
  evalOnTrigger {s} h := by
    refine of_ite_of_imp (fun hc => ?_) fun _ => h
    simp only [State.canEvaluate, Bool.and_eq_true] at hc
    exact h.of_active (by simp [State.mode]) (by simp) hc.1.1.1
  ageEnd h := h.ageEnd
  budgetStart h := h.of_same (by simp [State.mode]) (by simp) fun _ => by simp
  samplingEnd h := h.of_same (by simp [State.mode]) (by simp) fun _ => by simp
  monitoringEnd h := h.of_same (by simp [State.mode]) (by simp) fun _ => by simp
  throttleEnd h := h.of_same (by simp [State.mode]) (by simp) fun _ => by simp
  lcdRise h := h.of_quiet (by simp [State.mode]) (by simp) fun hq => hq.lcdRise
  lcdFall h := h.of_quiet (by simp [State.mode]) (by simp) fun hq => hq.lcdFall
  gapComplete h := h.of_quiet (by simp [State.mode]) (by simp) fun hq => by simpa [State.gapComplete, hq.access] using hq
  startTransmission h hd := h.of_quiet (by simp [State.mode]) (by simp) fun hq => by simp [hq.access] at hd
  transmissionComplete h := h.of_quiet (by simp [State.mode]) (by simp) fun hq => by
    simpa [State.transmissionComplete, hq.access] using hq
  holdRemainingEnd h := h.of_quiet (by simp [State.mode]) (by simp) fun hq => by
    simpa [State.holdRemainingEnd, (Line.quiet_iff.mp hq.1).1] using hq
  evaluationExpiry h := h.of_quiet (by simp [State.mode]) (by simp) fun hq => by
    simpa [State.evaluationExpiry, Planner.atRest_iff.mp hq.2.1] using hq
  reportExpiry h := h.of_quiet (by simp [State.mode]) (by simp) fun hq => by
    simpa [State.reportExpiry, Planner.atRest_iff.mp hq.2.1] using hq
  announceExpiry h := h.of_quiet (by simp [State.mode]) (by simp) fun hq => by
    simpa [State.announceExpiry, Planner.atRest_iff.mp hq.2.1] using hq
  listenExpiry {s} h := by
    refine of_ite_of_imp (fun hh => ?_) fun _ => h
    refine of_ite_of_imp (fun _ => calmByMode_keptByTable.releasePlanner h) fun _ => ?_
    exact h.of_quiet rfl rfl fun hq => by simp [hq.st] at hh
  overrides _ _ h := h.of_same rfl rfl fun _ => ⟨rfl, rfl, rfl⟩

theorem State.Sound.inventory {i n : Nat} (h : s.Sound) (hr : s.engine.req = some (.inventory i n)) : s.mode = .inventory := by
  obtain ⟨-, -, -, -, hreq, -⟩ := h
  rw [hr] at hreq
  simp only [State.reqSound, Bool.and_eq_true, beq_iff_eq] at hreq
  exact hreq.1.1

end Sys2Proof.Machine

namespace Sys2Proof.Proofs

open Sys2Proof.Machine

/-- Settles O56: calm is a case of the traversal, a sound state having its inventory query in INVENTORY alone. -/
theorem stepKeepsCalmOutsideActive : Obligations.StepKeepsCalmOutsideActive := by
  intro s t hs hcalm ht
  have hbefore : s.CalmByMode := ⟨hcalm, fun i n hi => hs.inventory hi⟩
  have hsend {s : State} (c : ModCmd) (h : s.CalmByMode) : (s.sendCommand c).CalmByMode :=
    h.of_same rfl rfl fun _ => ⟨rfl, rfl, rfl⟩
  exact (calmByMode_keptByCommands.of_step hsend hbefore ht).quiet

end Sys2Proof.Proofs


/-! No step leaves an end untaken (R15, R28, R83, R86, R87, R103 to R105): what each block's operations leave of its counts, and the
traversal once more. A tick lets the measurement age reach 3 and takes its end before the step is over, so the bound on the age is a
parameter. -/

namespace Sys2Proof.Machine

variable {s t : State} {n : Nat}

/-! ### The line -/

/-- The access is short of its ends, and a queued HOLD has time left. -/
def Line.EndTaken (l : Line) : Prop := l.access.running ∧ ∀ h, l.qHold = some h → 1 ≤ h.dur

theorem Line.EndTaken.refresh {l : Line} (h : l.EndTaken) (lcd : Bool) : (l.refresh lcd).EndTaken := by
  obtain ⟨haccess, hhold⟩ := h
  have hidle : Line.EndTaken { l with access := .idle } := ⟨trivial, hhold⟩
  have hgap : Line.EndTaken { l with access := .gap (gapStart lcd) } := by
    refine ⟨?_, hhold⟩
    cases lcd <;> simp [gapStart, Access.running]
  unfold Line.refresh
  split
  · split
    · exact hgap
    · exact ⟨haccess, hhold⟩
  · split
    · exact ⟨haccess, hhold⟩
    · exact hidle
  · split
    · exact ⟨haccess, hhold⟩
    · exact hidle
  · split
    · exact ⟨haccess, hhold⟩
    · exact hidle
  · exact ⟨haccess, hhold⟩

theorem Line.EndTaken.offer {f : Line → Line} (h : s.line.EndTaken) (hf : (f s.line).EndTaken) : (s.offer f).line.EndTaken := by
  unfold State.offer
  split
  · exact hf.refresh _
  · exact h

theorem Line.EndTaken.offerHold (h : s.line.EndTaken) (hn : 1 ≤ n) (r : Reason) : (s.offerHold n r).line.EndTaken := by
  refine h.offer ⟨h.1, fun x hx => ?_⟩
  cases hq : s.line.qHold with
  | none =>
    simp only [hq, mergeHold, Option.some.injEq] at hx
    exact hx ▸ hn
  | some q =>
    have hold := h.2 q hq
    simp only [hq, mergeHold, Option.some.injEq] at hx
    subst hx
    split
    · exact hn
    · split <;> exact hold

theorem Line.EndTaken.offerLoad (h : s.line.EndTaken) : s.offerLoad.line.EndTaken := h.offer h

theorem Line.EndTaken.offerOutcome (h : s.line.EndTaken) (num : Byte) (b : Bool) (r : List MoveResult) :
    (s.offerOutcome num b r).line.EndTaken := h.offer h

theorem Line.EndTaken.offerIntent (h : s.line.EndTaken) (b : IntentBody) : (s.offerIntent b).line.EndTaken := h.offer h

theorem Line.EndTaken.modQueue {f : Line → Line} (h : (f s.line).EndTaken) : (s.modQueue f).line.EndTaken := h.refresh _

theorem Line.EndTaken.ripen (h : s.line.EndTaken) (v : Vec) : (s.ripen v).line.EndTaken := Line.EndTaken.modQueue h

theorem Line.EndTaken.removeIntent (h : s.line.EndTaken) : s.removeIntent.line.EndTaken := Line.EndTaken.modQueue h

theorem Line.EndTaken.rescueEmptied (h : s.line.EndTaken) : s.rescueEmptied.line.EndTaken := by
  unfold State.rescueEmptied
  split
  · exact Line.EndTaken.offerLoad (s := s.setFlag .rescueConcluded) h
  · exact h

/-! What the planner offers and takes back -/

theorem Line.EndTaken.withdraw (h : s.line.EndTaken) : s.withdraw.line.EndTaken := by
  simpa [State.withdraw] using h.offerOutcome s.planner.intentNo false _

theorem Line.EndTaken.concludePlan (h : s.line.EndTaken) : s.concludePlan.line.EndTaken := by
  unfold State.concludePlan
  split
  · exact h
  next p _ =>
    split
    · simpa using h.offerOutcome s.planner.intentNo true p.reported
    · exact h

theorem Line.EndTaken.planResult (h : s.line.EndTaken) (k : Nat) (r : MoveResult) : (s.planResult k r).line.EndTaken := by
  unfold State.planResult
  split
  · exact h
  · split
    · exact Line.EndTaken.concludePlan h
    · exact h

theorem Line.EndTaken.announce (h : s.line.EndTaken) (l : List Move) : (s.announce l).line.EndTaken := by
  simp only [State.announce]
  split
  · exact Line.EndTaken.offerIntent (s := s.modPlanner _) h _
  · simpa using h

theorem Line.EndTaken.recheck (h : s.line.EndTaken) : s.recheck.line.EndTaken := by
  unfold State.recheck
  split
  · exact h
  · split
    · exact h.withdraw
    · exact h

theorem Line.EndTaken.rebuild (h : s.line.EndTaken) : s.rebuild.line.EndTaken := by
  unfold State.rebuild
  split
  · split
    · simpa using h
    · exact h.announce _
  · simpa using h

theorem Line.EndTaken.evaluate (h : s.line.EndTaken) : s.evaluate.line.EndTaken := by
  unfold State.evaluate
  split
  · exact h
  · exact h.announce _

theorem Line.EndTaken.evalOnTrigger (h : s.line.EndTaken) : s.evalOnTrigger.line.EndTaken := by
  unfold State.evalOnTrigger
  split
  · exact Line.EndTaken.evaluate (by simpa using h)
  · exact h

theorem Line.EndTaken.onPeerIntent (h : s.line.EndTaken) : s.onPeerIntent.line.EndTaken := by
  unfold State.onPeerIntent
  split
  · exact h
  · exact h
  · split
    · exact h
    · exact h.removeIntent.rebuild
  · exact h.recheck
  · exact h.recheck

theorem Line.EndTaken.onSetback (h : s.line.EndTaken) (k : Noted) : (s.onSetback k).line.EndTaken := by
  unfold State.onSetback
  split
  · exact h
  · split
    · exact h
    · simpa using h.removeIntent
  · exact h.withdraw
  · exact h.withdraw
  · exact Line.EndTaken.concludePlan h

theorem Line.EndTaken.issueHold (h : s.line.EndTaken) (hn : 1 ≤ n) (r : Reason) : (s.issueHold n r).line.EndTaken := by
  have hoffered := Line.EndTaken.offerHold (s := s.modPlanner fun p => { p with ownHold := max p.ownHold n }) h hn r
  simp only [State.issueHold]
  split
  · exact hoffered
  · split
    · exact hoffered.onSetback _
    · exact hoffered

theorem Line.EndTaken.takeNoted (h : s.line.EndTaken) (k : Noted) : (s.takeNoted k).line.EndTaken := by
  unfold State.takeNoted
  split
  · cases k with
    | peerIntent => exact h.recheck
    | becameHeld =>
      dsimp only
      split
      · exact h.withdraw
      · exact h
    | phaseLoss => exact h.withdraw
  · exact h

theorem Line.EndTaken.announcement (h : s.line.EndTaken) (num : Byte) : (s.announcement num).line.EndTaken := by
  simp only [State.announcement]
  split
  · refine List.foldlRecOn (motive := fun t : State => t.line.EndTaken) _ _ h fun t ht k _ => ht.takeNoted k
  · exact h

/-! The access -/

theorem Line.EndTaken.startTransmission (h : s.line.EndTaken) : s.startTransmission.line.EndTaken := by
  unfold State.startTransmission
  split
  next f l hl =>
    obtain ⟨k, -, hk⟩ := Option.bind_eq_some_iff.mp hl
    refine ⟨trivial, fun x hx => ?_⟩
    replace hx : l.qHold = some x := hx
    cases k with
    | hold =>
      obtain ⟨q, -, he⟩ := Option.map_eq_some_iff.mp hk
      cases he
      cases hx
    | outcome =>
      obtain ⟨o, -, ho⟩ := Option.bind_eq_some_iff.mp hk
      obtain ⟨v, -, he⟩ := Option.map_eq_some_iff.mp ho
      cases he
      exact h.2 x hx
    | intent =>
      obtain ⟨q, -, he⟩ := Option.map_eq_some_iff.mp hk
      cases he
      exact h.2 x hx
    | load =>
      obtain ⟨q, -, he⟩ := Option.map_eq_some_iff.mp hk
      cases he
      exact h.2 x hx
  next => exact ⟨trivial, h.2⟩

theorem Line.EndTaken.setAccess {a : Access} (h : s.line.EndTaken) (ha : a.running) : (s.setAccess a).line.EndTaken := ⟨ha, h.2⟩

theorem Line.EndTaken.gapComplete (h : s.line.EndTaken) : s.gapComplete.line.EndTaken := by
  unfold State.gapComplete
  split
  · split
    · split
      · exact Line.EndTaken.startTransmission h
      next hd => exact Line.EndTaken.setAccess (s := s.drawn) h (Nat.one_le_iff_ne_zero.mpr hd)
    · exact h.setAccess trivial
  next m k hf =>
    refine h.setAccess ?_
    have hrunning := h.1
    rw [hf] at hrunning
    cases k with
    | none => exact hrunning
    | some k => exact hrunning.1
  all_goals exact h

theorem Line.EndTaken.accessCycle (h : s.line.EndTaken) : s.accessCycle.line.EndTaken := by
  have hrunning := h.1
  unfold State.accessCycle
  split
  · split
    · exact h.gapComplete
    next hk => exact h.setAccess (Nat.lt_of_not_le hk)
  next m k hf =>
    rw [hf] at hrunning
    split
    · exact h.gapComplete
    next hk => exact h.setAccess ⟨hrunning.1, Nat.lt_of_not_le hk⟩
  · split
    · exact h.startTransmission
    next hk => exact h.setAccess (Nat.le_sub_one_of_lt (Nat.lt_of_not_le hk))
  all_goals exact h

theorem Line.EndTaken.accessCycles (h : s.line.EndTaken) (k : Nat) : (s.accessCycles k).line.EndTaken := by
  induction k generalizing s with
  | zero => exact h
  | succ k ih => exact ih h.accessCycle

theorem Access.running.carrier {a : Access} (h : a.running) : a.carrier.running := by
  rcases a with _ | k | m | ⟨m, _ | k⟩ | _
  · exact trivial
  · exact trivial
  · exact h
  · exact h
  · exact h.1
  · exact trivial

theorem Access.running.carrierGone {a : Access} (h : a.running) : a.carrierGone.running := by
  rcases a with _ | (_ | k) | m | ⟨m, _ | k⟩ | _
  · exact trivial
  · exact Nat.zero_lt_two
  · exact h
  · exact h
  · exact ⟨h, Nat.zero_lt_two⟩
  · exact h
  · exact trivial

theorem Line.EndTaken.lcdRise (h : s.line.EndTaken) : s.lcdRise.line.EndTaken := by
  unfold State.lcdRise
  split
  · exact h
  · exact ⟨h.1.carrier, h.2⟩

theorem Line.EndTaken.lcdFall (h : s.line.EndTaken) : s.lcdFall.line.EndTaken := by
  unfold State.lcdFall
  split
  · exact ⟨h.1.carrierGone, h.2⟩
  · exact h

theorem Line.EndTaken.transmissionComplete (h : s.line.EndTaken) : s.transmissionComplete.line.EndTaken := by
  unfold State.transmissionComplete
  split
  · have hfreed (u : State) (hu : u.line.EndTaken) : Line.EndTaken (Line.refresh u.pins.lcd { u.line with access := .idle }) :=
      Line.EndTaken.refresh (l := { u.line with access := .idle }) ⟨trivial, hu.2⟩ _
    have hcleared : (State.line { s with line := { s.line with tx := none } }).EndTaken := h
    apply hfreed
    split
    · exact hcleared.announcement _
    all_goals exact hcleared
  · exact h

theorem Line.EndTaken.holdRemainingEnd (h : s.line.EndTaken) : s.holdRemainingEnd.line.EndTaken := by
  unfold State.holdRemainingEnd
  split
  · exact Line.EndTaken.modQueue (f := fun l => { l with qHold := none }) ⟨h.1, fun x hx => nomatch hx⟩
  · exact h

theorem Line.EndTaken.evaluationExpiry (h : s.line.EndTaken) : s.evaluationExpiry.line.EndTaken := by
  unfold State.evaluationExpiry
  split
  · split
    · exact Line.EndTaken.evaluate (by simpa using h)
    · simpa using h
  · exact h

theorem Line.EndTaken.reportExpiry (h : s.line.EndTaken) : s.reportExpiry.line.EndTaken := by
  unfold State.reportExpiry
  split
  · simpa using h.offerLoad
  · exact h

theorem Line.EndTaken.announceExpiry (h : s.line.EndTaken) : s.announceExpiry.line.EndTaken := by
  unfold State.announceExpiry
  split
  · split
    · exact h
    · simpa using h.removeIntent
  · exact h

/-- A second leaves a queued HOLD with time left, or none (R97, R103). -/
theorem Line.EndTaken.second {l : Line} (h : l.EndTaken) (lcd : Bool) : (l.second lcd).EndTaken := by
  unfold Line.second
  split
  next q hq =>
    split
    · exact Line.EndTaken.refresh (l := { l with qHold := none }) ⟨h.1, fun x hx => nomatch hx⟩ _
    next hd =>
      refine ⟨h.1, fun x hx => ?_⟩
      cases hx
      exact Nat.le_sub_one_of_lt (Nat.lt_of_not_le hd)
  next => exact h

/-! ### The budget -/

/-- Every window and the throttle period have time left. -/
def Budget.EndTaken (b : Budget) : Prop :=
  (b.running = true → 1 ≤ b.sampLeft) ∧ (b.throttled = true → 1 ≤ b.throttleLeft ∧ 1 ≤ b.monLeft)

theorem Budget.EndTaken.samplingEnd {b : Budget} (h : b.EndTaken) (w : Nat) : (b.samplingEnd w).EndTaken := by
  unfold Budget.samplingEnd
  split
  next he => exact absurd (h.1 he.1) (by simp [he.2])
  next => exact h

theorem Budget.EndTaken.monitoringEnd {b : Budget} (h : b.EndTaken) (w : Nat) : (b.monitoringEnd w).EndTaken := by
  unfold Budget.monitoringEnd
  split
  next he => exact absurd (h.2 he.1).2 (by simp [he.2])
  next => exact h

theorem Budget.EndTaken.throttleEnd {b : Budget} (h : b.EndTaken) : b.throttleEnd.EndTaken := by
  unfold Budget.throttleEnd
  split
  next he => exact absurd (h.2 he.1).1 (by simp [he.2])
  next => exact h

/-- A tick takes the ends it brings (R83, R86, R87). -/
theorem Budget.second_endTaken {sampling monitoring : Nat} (hs : 1 ≤ sampling) (hm : 1 ≤ monitoring) (b : Budget) :
    (b.second sampling monitoring).EndTaken := by
  have hsamp : ∀ b : Budget, (b.samplingEnd sampling).running = true → 1 ≤ (b.samplingEnd sampling).sampLeft := by
    intro b
    unfold Budget.samplingEnd
    split <;> grind
  have hthrottle : ∀ b : Budget, b.throttleEnd.throttled = true → 1 ≤ b.throttleEnd.throttleLeft := by
    intro b
    unfold Budget.throttleEnd
    split <;> grind
  have hmon : ∀ b : Budget, (b.monitoringEnd monitoring).throttled = true → 1 ≤ (b.monitoringEnd monitoring).monLeft := by
    intro b
    unfold Budget.monitoringEnd
    split <;> grind
  have hkeepsSamp : ∀ b : Budget, b.throttleEnd.running = b.running ∧ b.throttleEnd.sampLeft = b.sampLeft := by
    intro b
    unfold Budget.throttleEnd
    split <;> simp
  have hkeeps : ∀ b : Budget, (b.monitoringEnd monitoring).running = b.running
      ∧ (b.monitoringEnd monitoring).sampLeft = b.sampLeft ∧ (b.monitoringEnd monitoring).throttled = b.throttled
      ∧ (b.monitoringEnd monitoring).throttleLeft = b.throttleLeft := by
    intro b
    unfold Budget.monitoringEnd
    split <;> simp
  unfold Budget.second
  generalize b.counted = c
  refine ⟨fun hr => ?_, fun ht => ⟨?_, hmon _ ht⟩⟩
  · simp only [hkeeps, hkeepsSamp] at hr ⊢
    exact hsamp c hr
  · simp only [hkeeps] at ht ⊢
    exact hthrottle _ ht

theorem Line.initial_endTaken : Line.initial.EndTaken := ⟨trivial, fun _ hx => nomatch hx⟩

theorem Budget.initial_endTaken : Budget.initial.EndTaken := ⟨fun hx => (nomatch hx), fun hx => (nomatch hx)⟩

/-! ### The records -/

/-- A conclusion leaves a connection RESTING with dwell, or marked for the next tick (R25, R28). -/
theorem Conn.conclude_endTaken {dwell : Nat} (hd : 1 ≤ dwell) (rescue : Bool) (allowed : Phase → Bool) (k : Conclusion) :
    KeepsDwell (Conn.conclude rescue dwell allowed k) := by
  intro c _
  cases k with
  | done =>
    intro _ hdwell
    cases rescue with
    | true => simpa [Conn.conclude] using hdwell
    | false =>
      simp only [Conn.conclude, Bool.false_eq_true, if_false] at hdwell
      omega
  | notReady =>
    intro hst hdwell
    have hnone : c.dwell = 0 := by simpa [Conn.conclude] using hdwell
    simp [Conn.conclude, Conn.restOrSteady, hnone] at hst
  | skippedOn x => exact Conn.foundOn_endTaken x _ _
  | failedOn x => exact fun hst => nomatch hst
  | failedDark => exact Conn.goDark_endTaken _ _

/-- A second takes the dwell's end it brings (R28). -/
theorem Conn.second_endTaken (c : Conn) : c.second.EndTaken := by
  intro hst hdwell
  simp only [Conn.second] at hst hdwell
  split at hst
  · cases hst
  next h => exact absurd ⟨hst, by omega⟩ h

theorem forall_mem_modify {α : Type} {p : α → Prop} {f : α → α} (hf : ∀ a, p a → p (f a)) {l : List α} (h : ∀ a ∈ l, p a) (i : Nat) :
    ∀ a ∈ l.modify i f, p a := by
  induction l generalizing i with
  | nil => simp
  | cons x l ih =>
    obtain ⟨hx, hl⟩ := List.forall_mem_cons.mp h
    cases i with
    | zero => simpa using ⟨hf x hx, hl⟩
    | succ i => simpa using ⟨hx, ih hl i⟩

/-! ### The station -/

/-- The records and the held states after a conclusion (R12, R25, R26, R27). -/
theorem recordConclusion_records (m : MoveReq) (k : Conclusion) (s : State) :
    (s.recordConclusion m k).meas = (s.modHeld m.conn fun h => { h with preMove := none }).meas
      ∧ (s.recordConclusion m k).conns = s.conns.modify m.conn (Conn.conclude m.rescue s.conf.dwell (s.allows m.conn) k) := by
  simp only [State.recordConclusion]
  (repeat' split) <;> simp [State.modHeld, State.modConn]

/-- No end is left untaken, with the age of a FRESH measurement below `n`. -/
structure State.EndsTakenBelow (n : Nat) (s : State) : Prop where
  line : s.line.EndTaken
  budget : s.budget.EndTaken
  conns : ∀ c ∈ s.conns, c.EndTaken
  age : s.meas.fresh = true → s.meas.age < n
  conf : 1 ≤ s.conf.sampling ∧ 1 ≤ s.conf.monitoring ∧ 1 ≤ s.conf.holdTime ∧ 1 ≤ s.conf.dwell

theorem endsTaken_iff : s.EndsTaken ↔ s.EndsTakenBelow 3 := by
  constructor
  · rintro ⟨haccess, hhold, hsamp, hthrottle, hconns, hage, hconf⟩
    exact ⟨⟨haccess, hhold⟩, ⟨hsamp, hthrottle⟩, hconns, hage, hconf⟩
  · rintro ⟨⟨haccess, hhold⟩, ⟨hsamp, hthrottle⟩, hconns, hage, hconf⟩
    exact ⟨haccess, hhold, hsamp, hthrottle, hconns, hage, hconf⟩

namespace State.EndsTakenBelow

/-- Only the line has changed. -/
theorem of_line (h : s.EndsTakenBelow n) (hcfg : t.cfg = s.cfg) (hm : t.meas = s.meas) (hc : t.conns = s.conns)
    (hb : t.budget = s.budget) (hl : t.line.EndTaken) : t.EndsTakenBelow n where
  line := hl
  budget := hb ▸ h.budget
  conns := hc ▸ h.conns
  age := hm ▸ h.age
  conf := by
    rw [State.conf, hcfg]
    exact h.conf

/-- Only the records have changed. -/
theorem of_conns (h : s.EndsTakenBelow n) (hcfg : t.cfg = s.cfg) (hf : t.meas.fresh = s.meas.fresh) (ha : t.meas.age = s.meas.age)
    (hl : t.line = s.line) (hb : t.budget = s.budget) (hc : ∀ c ∈ t.conns, c.EndTaken) : t.EndsTakenBelow n where
  line := hl ▸ h.line
  budget := hb ▸ h.budget
  conns := hc
  age hfresh := by
    rw [ha]
    exact h.age (hf ▸ hfresh)
  conf := by
    rw [State.conf, hcfg]
    exact h.conf

end State.EndsTakenBelow

theorem endsTakenBelow_keptByEngine (n : Nat) : KeptByEngine (State.EndsTakenBelow n) where
  ignored h _ hcfg hm hc _ hb hl _ _ := h.of_line hcfg hm hc hb (hl ▸ h.line)
  setReq h _ := h.of_line rfl rfl rfl rfl h.line
  inventory _ _ h _ := h.of_line rfl rfl rfl rfl h.line
  send h _ := h.of_line rfl rfl rfl rfl h.line
  modConn i h hf := h.of_conns rfl rfl rfl rfl rfl (forall_mem_modify hf h.conns i)
  modHeld _ h := h.of_conns rfl rfl rfl rfl rfl h.conns
  popRescue h := h.of_line rfl rfl rfl rfl h.line
  rescueEmptied h := h.of_line (by simp) (by simp) (by simp) (by simp) h.line.rescueEmptied
  recordConclusion {s} m k h := by
    have hconcluded := forall_mem_modify (Conn.conclude_endTaken h.conf.2.2.2 m.rescue (s.allows m.conn) k) h.conns m.conn
    obtain ⟨hmeas, hconns⟩ := recordConclusion_records m k s
    refine h.of_conns (by simp) (by simp [hmeas]) (by simp [hmeas]) (by simp) (by simp) (hconns ▸ hconcluded)
  appendStranded i h := h.of_line (by simp) (by simp) (by simp) (by simp) (by simpa using h.line)
  planResult k r h := h.of_line (by simp) (by simp) (by simp) (by simp) (h.line.planResult k r)
  issueHold r h _ hn := h.of_line (by simp) (by simp) (by simp) (by simp)
    (h.line.issueHold (by rcases hn with rfl | hn; exacts [h.conf.2.2.1, by omega]) r)

theorem endsTakenBelow_keptByTable (n : Nat) : KeptByTable (State.EndsTakenBelow n) where
  toBlindToTheRest := (endsTakenBelow_keptByEngine n).toBlindToTheRest
  filterPrec _ h := h.of_line rfl rfl rfl rfl h.line
  releasePlanner {s} h := by
    have hrechecked : State.EndsTakenBelow n (s.modPlanner fun p => { p with listenT := none }).recheck :=
      h.of_line (by simp) (by simp) (by simp) (by simp) (Line.EndTaken.recheck (s := s.modPlanner _) h.line)
    refine of_ite_of_imp (fun _ => (endsTakenBelow_keptByEngine n).arbitrate ?_) fun _ => hrechecked
    exact hrechecked.of_line rfl rfl rfl rfl hrechecked.line
  onPeerIntent h := h.of_line (by simp) (by simp) (by simp) (by simp) h.line.onPeerIntent
  onSetback k h := h.of_line (by simp) (by simp) (by simp) (by simp) (h.line.onSetback k)
  withdraw h _ := h.of_line (by simp) (by simp) (by simp) (by simp) h.line.withdraw
  endAssembly h := h.of_line (by simp) (by simp) (by simp) (by simp) h.line.lcdFall

namespace State.EndsTakenBelow

/-- Anew with a settings block that has no time of 0. -/
theorem beginInventory (hl : s.line.EndTaken) (hb : s.budget.EndTaken) (ha : s.meas.fresh = true → s.meas.age < n)
    (hconns : ∀ c ∈ s.conns, c.EndTaken)
    (hc : 1 ≤ s.conf.sampling ∧ 1 ≤ s.conf.monitoring ∧ 1 ≤ s.conf.holdTime ∧ 1 ≤ s.conf.dwell) :
    s.beginInventory.EndsTakenBelow n := by
  refine (endsTakenBelow_keptByEngine n).arbitrate ⟨hl, hb, fun c hmem => ?_, ha, hc⟩
  obtain ⟨i, hi, rfl⟩ := List.mem_mapIdx.mp hmem
  split
  · exact fun hst => nomatch hst
  · exact hconns _ (List.getElem_mem hi)

theorem cyclesPass (h : s.EndsTakenBelow n) (k : Nat) : (s.cyclesPass k).EndsTakenBelow n :=
  h.of_line (by simp) (by simp) (by simp) (by simp)
    (Line.EndTaken.accessCycles (s := { s with engine := { s.engine with req := s.engine.req.map (Req.count k) } }) h.line k)

/-- A second counts every timer and takes the ends it brings, but the measurement's, whose age it raises. -/
theorem countSecond (h : s.EndsTakenBelow n) : s.countSecond.EndsTakenBelow (n + 1) where
  line := h.line.second _
  budget := Budget.second_endTaken h.conf.1 h.conf.2.1 _
  conns c hc := by
    obtain ⟨d, -, rfl⟩ := List.mem_map.mp hc
    exact d.second_endTaken
  age hf := by
    have hfresh : s.meas.fresh = true := hf
    have hage := h.age hfresh
    simp only [State.countSecond, hfresh, if_true]
    omega
  conf := h.conf

/-- The end of a FRESH measurement's age is taken at 3 (R15). -/
theorem ageEnd (h : s.EndsTakenBelow n) : s.ageEnd.EndsTakenBelow 3 := by
  refine of_ite_of_imp (fun _ => (endsTakenBelow_keptByEngine 3).endSettling ?_) fun hne => ?_
  · exact
      { line := Line.EndTaken.ripen (s := State.setFlag _ { s with meas := { s.meas with fresh := false } }) h.line _
        budget := h.budget
        conns := h.conns
        age := fun hf => nomatch hf
        conf := h.conf }
  · exact { h with age := fun hf => Nat.lt_of_not_le fun hle => hne ⟨hf, hle⟩ }

theorem second (h : s.EndsTakenBelow 3) : s.second.EndsTakenBelow 3 :=
  ((endsTakenBelow_keptByTable 4).tableSecond h.countSecond).ageEnd

theorem taken (h : s.EndsTakenBelow n) (hn : 0 < n) (m : Meas) (k : Snapshot) (v : Vec) :
    (State.ripen v { s with meas := m, line := { s.line with snap := k } }).freshen.EndsTakenBelow n where
  line := Line.EndTaken.ripen (s := { s with meas := m, line := { s.line with snap := k } }) h.line v
  budget := h.budget
  conns := h.conns
  age _ := hn
  conf := h.conf

theorem recordTaken (h : s.EndsTakenBelow n) (hn : 0 < n) (w : Byte) (rs : List Reading) :
    (s.recordTaken w rs).freshen.EndsTakenBelow n := by
  simp only [State.recordTaken, State.takeSnapshot, State.deriveSums, State.takeReadings]
  exact h.taken hn _ _ _

theorem enterBlackout (h : s.EndsTakenBelow n) : s.enterBlackout.EndsTakenBelow n :=
  (endsTakenBelow_keptByEngine n).abandonRequest
    (h.of_line rfl rfl rfl rfl ⟨trivial, fun _ hx => nomatch hx⟩)

theorem modBudget {f : Budget → Budget} (h : s.EndsTakenBelow n) (hb : (f s.budget).EndTaken) : (s.modBudget f).EndsTakenBelow n :=
  { h with budget := hb }

/-- A start that throttles begins a throttle period and a monitoring window with time left (R85, R86). -/
theorem budgetStart (h : s.EndsTakenBelow n) : s.budgetStart.EndsTakenBelow n := by
  obtain ⟨hsamp, hthrottle⟩ := h.budget
  refine of_ite_of_imp (fun _ => h.modBudget ⟨hsamp, hthrottle⟩) fun _ => ?_
  refine of_ite_of_imp (fun hs => ?_) fun _ => h.modBudget ⟨hsamp, hthrottle⟩
  simp only [State.startThrottles, Bool.and_eq_true, decide_eq_true_eq] at hs
  refine (endsTakenBelow_keptByEngine n).setFlag (h.modBudget ⟨hsamp, fun _ => ⟨?_, h.conf.2.1⟩⟩) _
  exact Nat.mul_pos hs.2 h.conf.1

theorem startBudget (h : s.EndsTakenBelow n) : s.startBudget.EndsTakenBelow n :=
  of_ite_of_imp (fun _ => h) fun _ => h.modBudget ⟨fun _ => h.conf.1, h.budget.2⟩

end State.EndsTakenBelow

/-- Every time an image gives is at least 1 s after its clamp (R167). -/
theorem clampImage_times (im : List Byte) :
    1 ≤ (clampImage im).val.sampling ∧ 1 ≤ (clampImage im).val.monitoring ∧ 1 ≤ (clampImage im).val.holdTime
      ∧ 1 ≤ (clampImage im).val.dwell := by
  simp only [clampImage, clampNat]
  omega

theorem powerOn_endsTakenBelow (s : State) : s.powerOn.EndsTakenBelow 3 :=
  { line := Line.initial_endTaken
    budget := Budget.initial_endTaken
    conns := fun c hc => by
      rw [List.eq_of_mem_replicate hc]
      exact fun hx => nomatch hx
    age := fun hx => nomatch hx
    conf := show 1 ≤ Cfg.blank.sampling ∧ 1 ≤ Cfg.blank.monitoring ∧ 1 ≤ Cfg.blank.holdTime ∧ 1 ≤ Cfg.blank.dwell by decide }

theorem endsTakenBelow_keptByCommands : KeptByCommands (State.EndsTakenBelow 3) where
  __ := endsTakenBelow_keptByTable 3
  __ := endsTakenBelow_keptByEngine 3
  powerOn {s} _ := powerOn_endsTakenBelow s
  setLoader _ _ h := h.of_line rfl rfl rfl rfl h.line
  enterConfigFault h _ := h.of_line rfl rfl rfl rfl h.line
  endLoading im h _ := State.EndsTakenBelow.beginInventory (by simpa using h.line) (by simpa using h.budget) (by simpa using h.age)
    (by simpa using h.conns) (by simpa [State.conf] using clampImage_times im)
  beginInventory h _ := State.EndsTakenBelow.beginInventory h.line h.budget h.age h.conns h.conf
  restartEvent h _ := State.EndsTakenBelow.beginInventory Line.initial_endTaken Budget.initial_endTaken (fun hx => nomatch hx) h.conns h.conf
  cyclesPass k h := h.cyclesPass k
  second h := h.second
  appendSelected x h := h.of_line (by simp) (by simp) (by simp) (by simp) (by simpa using h.line)
  filterRescue _ h := h.of_line rfl rfl rfl rfl h.line
  enterBlackout h _ := h.enterBlackout
  listenAgain _ h _ := h.of_line rfl rfl rfl rfl h.line
  enterActive h _ := by
    refine (endsTakenBelow_keptByEngine 3).arbitrate (State.EndsTakenBelow.startBudget ?_)
    exact h.of_line (by simp) (by simp) (by simp) (by simp) (by simpa using h.line)
  finishInventoryQuery h _ :=
    of_ite_of_imp (fun _ => (endsTakenBelow_keptByEngine 3).arbitrate (h.of_line rfl rfl rfl rfl h.line))
      fun _ => (endsTakenBelow_keptByEngine 3).arbitrate (h.of_line rfl rfl rfl rfl h.line)
  setReading _ h := h.of_conns rfl rfl rfl rfl rfl h.conns
  recordTaken w rs h := h.recordTaken (by decide) w rs
  evalOnTrigger h := h.of_line (by simp) (by simp) (by simp) (by simp) h.line.evalOnTrigger
  ageEnd h := h.ageEnd
  budgetStart h := h.budgetStart
  samplingEnd h := h.modBudget (h.budget.samplingEnd _)
  monitoringEnd h := h.modBudget (h.budget.monitoringEnd _)
  throttleEnd h := h.modBudget h.budget.throttleEnd
  lcdRise h := h.of_line (by simp) (by simp) (by simp) (by simp) h.line.lcdRise
  lcdFall h := h.of_line (by simp) (by simp) (by simp) (by simp) h.line.lcdFall
  gapComplete h := h.of_line (by simp) (by simp) (by simp) (by simp) h.line.gapComplete
  startTransmission h _ := h.of_line (by simp) (by simp) (by simp) (by simp) h.line.startTransmission
  transmissionComplete h := h.of_line (by simp) (by simp) (by simp) (by simp) h.line.transmissionComplete
  holdRemainingEnd h := h.of_line (by simp) (by simp) (by simp) (by simp) h.line.holdRemainingEnd
  evaluationExpiry h := h.of_line (by simp) (by simp) (by simp) (by simp) h.line.evaluationExpiry
  reportExpiry h := h.of_line (by simp) (by simp) (by simp) (by simp) h.line.reportExpiry
  announceExpiry h := h.of_line (by simp) (by simp) (by simp) (by simp) h.line.announceExpiry
  listenExpiry h :=
    of_ite_of_imp (fun _ => of_ite_of_imp (fun _ => (endsTakenBelow_keptByTable 3).releasePlanner h)
      fun _ => h.of_line rfl rfl rfl rfl h.line) fun _ => h
  overrides _ _ h := h.of_line rfl rfl rfl rfl h.line

end Sys2Proof.Machine

namespace Sys2Proof.Proofs

open Sys2Proof.Machine

/-- Settles O60, as a case of the traversal. -/
theorem stepLeavesNoEndUntaken : Obligations.StepLeavesNoEndUntaken := by
  intro s t h ht
  rw [endsTaken_iff] at h ⊢
  have hsend {s : State} (c : ModCmd) (h : s.EndsTakenBelow 3) : (s.sendCommand c).EndsTakenBelow 3 :=
    h.of_line rfl rfl rfl rfl h.line
  exact endsTakenBelow_keptByCommands.of_step hsend h ht

end Sys2Proof.Proofs


/-! The records (R17, R23, R24, R29, R31): what the engine's and inventory's changes make of a sound record, and what is left of a
sound state while one record is being changed. -/

namespace Sys2Proof.Machine

variable {s t : State} {configured : Bool} {allowed : Phase → Bool} {c : Conn}

/-! ### One record -/

/-- A configured record outside the recovery set and every move, whatever its state and current phase. -/
structure Conn.Plain (configured : Bool) (c : Conn) : Prop where
  configured : configured = true
  member : c.member = none
  release : c.releasePending = false
  note : c.note = none
  attempts : c.attempts ≤ 3

/-- A sound record that is in no move. -/
structure Conn.Idle (configured : Bool) (allowed : Phase → Bool) (c : Conn) : Prop where
  sound : c.sound configured allowed = true
  still : c.st ≠ .moving

/-- A record with no part in a move or the recovery set is sound where it is supplied. -/
theorem Conn.Plain.idle (h : c.Plain configured) (hst : c.st = .faulted ∨ (c.st = .steady ∨ c.st = .resting) ∧ onAllowed allowed c.cur = true) :
    c.Idle configured allowed := by
  obtain ⟨hconf, hmember, hrelease, hnote, hattempts⟩ := h
  rcases hst with hst | ⟨hst | hst, hcur⟩ <;> exact ⟨by simp_all [Conn.sound], by simp [hst]⟩

theorem Conn.restOrSteady_eq (c : Conn) : c.restOrSteady = .steady ∨ c.restOrSteady = .resting := by
  unfold Conn.restOrSteady
  split <;> simp

theorem Conn.Plain.foundOn (h : c.Plain configured) {x : Phase} {ok : Bool} (hok : ok = true → allowed x = true) :
    (c.foundOn x ok).Idle configured allowed := by
  refine Conn.Plain.idle ⟨h.configured, h.member, h.release, h.note, h.attempts⟩ ?_
  cases ok with
  | false => exact .inl rfl
  | true => exact .inr ⟨c.restOrSteady_eq, hok rfl⟩

theorem Conn.Plain.goDark (h : c.Plain configured) {n : Nat} (hn : n ≤ 10) : (c.goDark n).Idle configured allowed := by
  obtain ⟨hconf, hmember, hrelease, hnote, -⟩ := h
  constructor
  · simp [Conn.goDark, Conn.joinSet, Conn.sound, hconf, hmember, hrelease, hnote, hn]
  · simp [Conn.goDark, Conn.joinSet, hmember]

theorem Conn.Plain.checked (h : ({ c with releasePending := false, member := none } : Conn).Plain configured) (hst : c.st = .faulted)
    (a : Option (Option Phase)) : (c.checked allowed a).Idle configured allowed := by
  rcases a with _ | _ | x
  · exact Conn.Plain.idle h (.inl hst)
  · exact Conn.Plain.goDark h (by decide)
  · exact Conn.Plain.foundOn h id

theorem Conn.Plain.inventoried (h : c.Plain configured) (hst : c.st = .faulted) (a : Option (Option Phase)) :
    (c.inventoried allowed a).Idle configured allowed := by
  rcases a with _ | _ | x
  · exact h.idle (.inl hst)
  · exact h.goDark (by decide)
  · exact h.foundOn id

/-- Where a conclusion leaves the connection on its current phase, that phase is to be allowed (R25, R26). -/
def Conclusion.fits (k : Conclusion) (allowed : Phase → Bool) (cur : Option Phase) : Prop :=
  match k with
  | .done | .notReady => onAllowed allowed cur = true
  | .skippedOn _ | .failedOn _ | .failedDark => True

theorem Conn.Plain.conclude (h : ({ c with note := none } : Conn).Plain configured) {k : Conclusion} (hk : k.fits allowed c.cur)
    (rescue : Bool) (dwell : Nat) : (c.conclude rescue dwell allowed k).Idle configured allowed := by
  have hplain (d : Conn) (hd : d.member = c.member ∧ d.releasePending = c.releasePending ∧ d.note = none ∧ d.attempts = c.attempts) :
      d.Plain configured :=
    ⟨h.configured, hd.1.trans h.member, hd.2.1.trans h.release, hd.2.2.1, hd.2.2.2 ▸ h.attempts⟩
  cases k with
  | done => exact (hplain (c.conclude rescue dwell allowed .done) ⟨rfl, rfl, rfl, rfl⟩).idle (.inr ⟨.inr rfl, hk⟩)
  | notReady =>
    exact (hplain (c.conclude rescue dwell allowed .notReady) ⟨rfl, rfl, rfl, rfl⟩).idle (.inr ⟨Conn.restOrSteady_eq _, hk⟩)
  | skippedOn x => exact h.foundOn id
  | failedOn x => exact (hplain (c.conclude rescue dwell allowed (.failedOn x)) ⟨rfl, rfl, rfl, rfl⟩).idle (.inl rfl)
  | failedDark => exact h.goDark (by decide)

/-- A sound record in the recovery set for a recovery. -/
theorem Conn.sound_dark (hst : c.st = .dark) :
    c.sound configured allowed = true ↔ configured = true ∧ c.cur = none ∧ c.note = none ∧ c.releasePending = false ∧ c.attempts ≤ 2
      ∧ ∃ k, c.member = some k ∧ k.kind = .recover ∧ k.retry ≤ 10 := by
  cases hm : c.member with
  | none => simp [Conn.sound, hst, hm]
  | some k => simp [Conn.sound, hst, hm, and_assoc]

theorem Conn.sound_faulted (hst : c.st = .faulted) :
    c.sound configured allowed = true ↔ configured = true ∧ c.note = none ∧ c.attempts ≤ 3
      ∧ ((c.member = none ∧ c.releasePending = false)
        ∨ ∃ k, c.member = some k ∧ c.releasePending = true ∧ k.kind = .check ∧ k.retry ≤ 10) := by
  cases hm : c.member with
  | none => simp [Conn.sound, hst, hm, and_assoc]
  | some k => simp [Conn.sound, hst, hm, and_assoc]

theorem Conn.sound_moving (hst : c.st = .moving) :
    c.sound configured allowed = true ↔ configured = true ∧ c.member = none ∧ c.releasePending = false ∧ (∃ n, c.note = some n)
      ∧ c.attempts ≤ 3 := by
  simp [Conn.sound, hst, and_assoc, Option.isSome_iff_exists]

theorem Conn.sound_supplied (hst : c.st = .steady ∨ c.st = .resting) :
    c.sound configured allowed = true ↔ c.Plain configured ∧ onAllowed allowed c.cur = true := by
  constructor
  · intro h
    rcases hst with hst | hst <;>
      simp only [Conn.sound, hst, Bool.and_eq_true, Option.isNone_iff_eq_none, decide_eq_true_eq, Bool.not_eq_true'] at h <;>
      obtain ⟨⟨⟨⟨⟨hconf, hcur⟩, hmember⟩, hrelease⟩, hnote⟩, hattempts⟩ := h <;>
      exact ⟨⟨hconf, hmember, hrelease, hnote, hattempts⟩, hcur⟩
  · rintro ⟨hplain, hcur⟩
    exact (hplain.idle (.inr ⟨hst, hcur⟩)).sound

theorem Conn.sound_darkLocked (hst : c.st = .darkLocked) :
    c.sound configured allowed = true ↔ configured = true ∧ c.cur = none ∧ c.note = none ∧ c.releasePending = false ∧ c.attempts = 3
      ∧ c.member = none := by
  simp [Conn.sound, hst, and_assoc]

theorem Conn.sound_unconfigured (hst : c.st = .unconfigured) :
    c.sound configured allowed = true ↔ configured = false ∧ c = Conn.unconfigured := by
  simp [Conn.sound, hst]

/-- Only a configured record has a state other than UNCONFIGURED (R17). -/
theorem Conn.configured_of_sound (h : c.sound configured allowed = true) : configured = true ∨ configured = false ∧ c = Conn.unconfigured := by
  cases configured with
  | true => exact .inl rfl
  | false => cases hst : c.st <;> simp_all [Conn.sound]

/-- A failed attempt leaves the connection DARK for the next, or DARK_LOCKED after the third (R31). -/
theorem Conn.attemptFailed_idle (hst : c.st = .dark) (h : c.sound configured allowed = true) : c.attemptFailed.Idle configured allowed := by
  obtain ⟨hconf, hcur, hnote, hrelease, hattempts, k, hmember, hkind, -⟩ := (Conn.sound_dark hst).mp h
  unfold Conn.attemptFailed
  have hmax : maxAttempts = 3 := rfl
  have hwait : retryWait = 10 := rfl
  by_cases hlast : c.attempts + 1 < maxAttempts
  · rw [if_pos hlast]
    constructor
    · simp only [Conn.sound, hst, hconf, hcur, hnote, hrelease, hmember]
      simp [hkind, hwait]
      omega
    · simp [hst]
  · rw [if_neg hlast]
    constructor
    · simp only [Conn.sound, hconf, hcur, hnote, hrelease]
      simp
      omega
    · simp

/-- The times of a record are no matter of its soundness, within the retry wait. -/
theorem Conn.retimed_sound (h : c.sound configured allowed = true) (hst : c.st ≠ .unconfigured) (d : Nat) (u : Bool) {r : Nat → Nat}
    (hr : ∀ n, n ≤ 10 → r n ≤ 10) :
    ({ c with dwell := d, unticked := u, member := c.member.map fun k => { k with retry := r k.retry } } : Conn).sound configured allowed
      = true := by
  cases hm : c.member <;> cases hs : c.st <;> simp_all [Conn.sound]

/-- Setting a retry remaining leaves a record as sound as it was (R74, R80). -/
theorem Conn.setRetry_sound {n : Nat} (hn : n ≤ 10) (h : c.sound configured allowed = true) :
    (c.setRetry n).sound configured allowed = true := by
  by_cases hst : c.st = .unconfigured
  · obtain ⟨-, rfl⟩ := (Conn.sound_unconfigured hst).mp h
    exact h
  · exact Conn.retimed_sound h hst c.dwell c.unticked fun _ _ => hn

/-- A dwell's end leaves a record as sound as it was (R28). -/
theorem Conn.steadied_sound (h : c.sound configured allowed = true) (p : Prop) [Decidable p] :
    ({ c with st := if c.st = .resting ∧ p then .steady else c.st } : Conn).sound configured allowed = true := by
  by_cases hr : c.st = .resting ∧ p
  · obtain ⟨⟨hconf, hmember, hrelease, hnote, hattempts⟩, hcur⟩ := (Conn.sound_supplied (.inr hr.1)).mp h
    rw [if_pos hr]
    exact (Conn.sound_supplied (.inl rfl)).mpr ⟨⟨hconf, hmember, hrelease, hnote, hattempts⟩, hcur⟩
  · rwa [if_neg hr]

/-- A second leaves a record as sound as it was (R28, R30). -/
theorem Conn.second_sound (h : c.sound configured allowed = true) : c.second.sound configured allowed = true := by
  by_cases hst : c.st = .unconfigured
  · obtain ⟨-, rfl⟩ := (Conn.sound_unconfigured hst).mp h
    exact h
  · exact Conn.steadied_sound (Conn.retimed_sound h hst (c.dwell - 1) false fun n hn => (Nat.sub_le n 1).trans hn) (c.dwell ≤ 1)

end Sys2Proof.Machine


/-! The engine's operations keep the records and the request sound together (R24, R59, R71 to R76): a move's record is the only one not
idle, so an operation on a move in flight keeps the rest and answers for the one record it changes. -/

namespace Sys2Proof.Machine

variable {s t : State} {i : Nat} {m : MoveReq}

/-! ### Reading the records -/

theorem conn_modConn (s : State) (i j : Nat) (f : Conn → Conn) :
    (s.modConn i f).conn j = if i = j ∧ j < s.conns.length then f (s.conn j) else s.conn j := by
  simp only [State.conn, State.modConn_conns, List.getD_eq_getElem?_getD, List.getElem?_modify]
  by_cases hj : j < s.conns.length
  · by_cases hij : i = j <;> simp [hij, hj]
  · simp [hj]

theorem conn_modConn_of_ne {j : Nat} (hj : j ≠ i) (f : Conn → Conn) : (s.modConn i f).conn j = s.conn j := by
  rw [conn_modConn, if_neg (fun h => hj h.1.symm)]

theorem conn_modConn_self (hi : i < s.conns.length) (f : Conn → Conn) : (s.modConn i f).conn i = f (s.conn i) := by
  rw [conn_modConn, if_pos ⟨rfl, hi⟩]

/-- A change that leaves the record as it was changes nothing. -/
theorem modConn_eq_self {f : Conn → Conn} (hf : f (s.conn i) = s.conn i) : s.modConn i f = s := by
  have hconns : s.conns.modify i f = s.conns := by
    apply List.ext_getElem?
    intro j
    rw [List.getElem?_modify]
    by_cases hij : i = j
    · subst hij
      cases hj : s.conns[i]? with
      | none => rfl
      | some c =>
        have hc : s.conn i = c := by simp [State.conn, List.getD_eq_getElem?_getD, hj]
        rw [hc] at hf
        simp [hf]
    · simp [hij]
  rw [State.modConn, hconns]

theorem configured_congr (h : t.cfg = s.cfg) : t.configured = s.configured := by
  have hconf : t.conf = s.conf := by rw [State.conf, State.conf, h]
  funext j
  rw [State.configured, State.configured, hconf]

theorem allows_congr (h : t.cfg = s.cfg) : t.allows = s.allows := by
  funext j p
  simp [State.allows, State.connCfg, State.conf, h]

theorem conn_congr (h : t.conns = s.conns) : t.conn = s.conn := by
  funext j
  simp [State.conn, h]

theorem configHeld_congr (hcfg : t.cfg = s.cfg) (hm : t.mode.working = s.mode.working) : t.ConfigHeld ↔ s.ConfigHeld := by
  rw [State.ConfigHeld, State.ConfigHeld, hcfg, hm]

/-- A configured connection has one of the 32 records (R17). -/
theorem State.ConfigHeld.lt_of_configured (h : s.ConfigHeld) (hi : s.configured i = true) : i < 32 := by
  obtain ⟨-, hclamped⟩ := h
  have hlt : i < s.conf.count := by simpa [State.configured] using hi
  cases hc : s.cfg with
  | none =>
    rw [State.conf, hc] at hlt
    cases hlt
  | some c =>
    rw [State.conf, hc] at hlt
    exact Nat.lt_of_lt_of_le hlt (hclamped c hc).2.1

/-- The home phase of a configured connection is allowed (R19). -/
theorem State.ConfigHeld.home_allowed (h : s.ConfigHeld) (hi : s.configured i = true) : s.allows i (s.homeOf i) = true := by
  obtain ⟨-, hclamped⟩ := h
  have hlt : i < s.conf.count := by simpa [State.configured] using hi
  cases hc : s.cfg with
  | none =>
    rw [State.conf, hc] at hlt
    cases hlt
  | some c =>
    obtain ⟨-, -, hlen, hhome, -⟩ := hclamped c hc
    rw [State.conf, hc] at hlt
    have hi : i < c.conns.length := hlen ▸ hlt
    have hget : s.connCfg i = c.conns[i] := by simp [State.connCfg, State.conf, hc, hi]
    rw [State.allows, State.homeOf, hget]
    exact hhome _ (List.getElem_mem hi)

/-! ### A sound state -/

theorem State.Sound.configHeld (h : s.Sound) : s.ConfigHeld := h.1

theorem State.Sound.length (h : s.Sound) : s.conns.length = 32 := h.2.1

theorem State.Sound.record (h : s.Sound) (i : Nat) : (s.conn i).sound (s.configured i) (s.allows i) = true := h.2.2.1 i

theorem State.Sound.moving (h : s.Sound) (hi : (s.conn i).st = .moving) : ∃ m, s.engine.req = some (.move m) ∧ m.conn = i :=
  h.2.2.2.1 i hi

theorem State.Sound.request (h : s.Sound) : s.reqSound s.engine.req = true := h.2.2.2.2.1

/-- What a sound state is read from has not changed. -/
theorem State.Sound.of_frame (h : s.Sound) (hcfg : t.cfg = s.cfg) (hmode : t.mode = s.mode) (hconns : t.conns = s.conns)
    (hreq : t.engine.req = s.engine.req) (hnext : t.engine.invNext = s.engine.invNext) : t.Sound := by
  have hreqSound : t.reqSound t.engine.req = s.reqSound s.engine.req := by
    simp only [State.reqSound, hreq, hnext, hmode, configured_congr hcfg, allows_congr hcfg, conn_congr hconns]
  rw [State.Sound, hreqSound, hmode, hreq, hnext, hconns, configured_congr hcfg, allows_congr hcfg, conn_congr hconns,
    configHeld_congr hcfg (by rw [hmode])]
  exact h

/-- Everything sound but the record of connection `i`, and no other connection in a move. -/
structure State.SoundBut (i : Nat) (s : State) : Prop where
  config : s.ConfigHeld
  length : s.conns.length = 32
  others : ∀ j, j ≠ i → (s.conn j).Idle (s.configured j) (s.allows j)

theorem State.SoundBut.of_frame (h : s.SoundBut i) (hcfg : t.cfg = s.cfg) (hm : t.mode.working = s.mode.working)
    (hconns : t.conns = s.conns) : t.SoundBut i where
  config := (configHeld_congr hcfg hm).mpr h.config
  length := hconns ▸ h.length
  others := by
    rw [configured_congr hcfg, allows_congr hcfg, conn_congr hconns]
    exact h.others

theorem State.SoundBut.modConn (h : s.SoundBut i) (f : Conn → Conn) : (s.modConn i f).SoundBut i where
  config := h.config
  length := by simpa using h.length
  others j hj := by
    rw [conn_modConn_of_ne hj]
    exact h.others j hj

/-- With the last record idle and the engine FREE the state is sound, outside INVENTORY and in it past the connections asked. -/
theorem State.SoundBut.free (h : s.SoundBut i) (hi : (s.conn i).Idle (s.configured i) (s.allows i)) (hr : s.engine.req = none)
    (hinv : s.mode = .inventory → ∀ j, s.engine.invNext ≤ j → s.configured j = true → (s.conn j).unasked = true) : s.Sound := by
  have hidle (j : Nat) : (s.conn j).Idle (s.configured j) (s.allows j) := by
    by_cases hj : j = i
    · exact hj ▸ hi
    · exact h.others j hj
  refine ⟨h.config, h.length, fun j => (hidle j).sound, fun j hj => absurd hj (hidle j).still, ?_, hinv⟩
  rw [hr]
  rfl

/-- While no move is in flight every record is idle. -/
theorem State.Sound.idle (h : s.Sound) (hr : ∀ m, s.engine.req ≠ some (.move m)) (j : Nat) :
    (s.conn j).Idle (s.configured j) (s.allows j) := by
  refine ⟨h.record j, fun hj => ?_⟩
  obtain ⟨m, hm, -⟩ := h.moving hj
  exact hr m hm

theorem State.Sound.soundBut (h : s.Sound) (hr : ∀ m, s.engine.req ≠ some (.move m)) (i : Nat) : s.SoundBut i :=
  ⟨h.configHeld, h.length, fun j _ => h.idle hr j⟩

/-- One record changed with no move in flight, and the engine left FREE. -/
theorem State.Sound.modConn_free (h : s.Sound) (hr : ∀ m, s.engine.req ≠ some (.move m)) (hm : s.mode ≠ .inventory) {f : Conn → Conn}
    (hf : (s.conn i).Idle (s.configured i) (s.allows i) → (f (s.conn i)).Idle (s.configured i) (s.allows i)) :
    ((s.modConn i f).setReq none).Sound := by
  refine State.SoundBut.free (s := (s.modConn i f).setReq none) (i := i) (((h.soundBut hr i).modConn f).of_frame rfl rfl rfl) ?_ rfl
    fun hinv => absurd hinv hm
  change ((s.modConn i f).conn i).Idle (s.configured i) (s.allows i)
  rw [conn_modConn]
  split
  · exact hf (h.idle hr i)
  · exact h.idle hr i

/-! ### A move in flight, whatever its step -/

/-- The connection of `m` is in the move `m`, its record as R24 leaves it, and every other record is idle. -/
structure State.InMove (m : MoveReq) (s : State) : Prop where
  others : s.SoundBut m.conn
  configured : s.configured m.conn = true
  st : (s.conn m.conn).st = .moving
  note : (s.conn m.conn).note = some ⟨m.rescue, m.src, m.dst⟩
  member : (s.conn m.conn).member = none
  release : (s.conn m.conn).releasePending = false
  attempts : (s.conn m.conn).attempts ≤ 3
  distinct : m.src ≠ m.dst
  src : s.allows m.conn m.src = true
  dst : s.allows m.conn m.dst = true
  mode : s.mode ≠ .inventory

theorem State.InMove.of_frame (h : s.InMove m) (hcfg : t.cfg = s.cfg) (hw : t.mode.working = s.mode.working) (hm : t.mode ≠ .inventory)
    (hconns : t.conns = s.conns) : t.InMove m where
  others := h.others.of_frame hcfg hw hconns
  configured := configured_congr hcfg ▸ h.configured
  st := conn_congr hconns ▸ h.st
  note := conn_congr hconns ▸ h.note
  member := conn_congr hconns ▸ h.member
  release := conn_congr hconns ▸ h.release
  attempts := conn_congr hconns ▸ h.attempts
  distinct := h.distinct
  src := allows_congr hcfg ▸ h.src
  dst := allows_congr hcfg ▸ h.dst
  mode := hm

/-- What a sound request says of its move. -/
theorem State.Sound.move (h : s.Sound) (hr : s.engine.req = some (.move m)) :
    s.InMove m ∧ s.mode = .active ∧ m.curOk (s.conn m.conn).cur = true ∧ m.targetOk (s.allows m.conn) = true := by
  have hreq := h.request
  rw [hr] at hreq
  simp only [State.reqSound, Bool.and_eq_true, beq_iff_eq, bne_iff_ne] at hreq
  obtain ⟨⟨⟨⟨⟨⟨⟨⟨hmode, hconf⟩, hst⟩, hnote⟩, hdistinct⟩, hsrc⟩, hdst⟩, hcur⟩, htarget⟩ := hreq
  obtain ⟨-, hmember, hrelease, -, hattempts⟩ := (Conn.sound_moving hst).mp (h.record m.conn)
  refine ⟨⟨⟨h.configHeld, h.length, fun j hj => ⟨h.record j, fun hmoving => ?_⟩⟩, hconf, hst, hnote, hmember, hrelease, hattempts,
    hdistinct, hsrc, hdst, by simp [hmode]⟩, hmode, hcur, htarget⟩
  obtain ⟨m', hm', hconn⟩ := h.moving hmoving
  rw [hr] at hm'
  cases hm'
  exact hj hconn.symm

/-- The move at a step that fits its record. -/
theorem State.InMove.atStep (h : s.InMove m) (hm : s.mode = .active) {st : MoveStep} {n : Nat}
    (hcur : MoveReq.curOk { m with step := st, cycles := n } (s.conn m.conn).cur = true)
    (htarget : MoveReq.targetOk { m with step := st, cycles := n } (s.allows m.conn) = true) : (s.atStep m st n).Sound := by
  refine ⟨h.others.config, h.others.length, fun j => ?_, fun j hj => ?_, ?_, fun hinv => absurd hinv h.mode⟩
  · by_cases hj : j = m.conn
    · subst hj
      exact (Conn.sound_moving h.st).mpr ⟨h.configured, h.member, h.release, ⟨_, h.note⟩, h.attempts⟩
    · exact (h.others.others j hj).sound
  · refine ⟨_, rfl, ?_⟩
    by_contra hne
    exact (h.others.others j (Ne.symm hne)).still hj
  · have hreq : s.reqSound (some (.move { m with step := st, cycles := n })) = true := by
      simp [State.reqSound, hm, h.configured, h.st, h.note, h.distinct, h.src, h.dst, hcur, htarget]
    exact hreq

theorem State.InMove.setCur (h : s.InMove m) (x : Option Phase) :
    (s.setCur m.conn x).InMove m ∧ ((s.setCur m.conn x).conn m.conn).cur = x := by
  have hlt : m.conn < s.conns.length := by
    rw [h.others.length]
    exact h.others.config.lt_of_configured h.configured
  have hself : (s.setCur m.conn x).conn m.conn = { s.conn m.conn with cur := x } := conn_modConn_self hlt _
  refine ⟨⟨h.others.modConn _, h.configured, ?_, ?_, ?_, ?_, ?_, h.distinct, h.src, h.dst, h.mode⟩, by rw [hself]⟩
  · rw [hself]
    exact h.st
  · rw [hself]
    exact h.note
  · rw [hself]
    exact h.member
  · rw [hself]
    exact h.release
  · rw [hself]
    exact h.attempts

/-! ### The engine FREE again -/

@[simp] theorem rescueEmptied_invNext (s : State) : s.rescueEmptied.engine.invNext = s.engine.invNext := by
  unfold State.rescueEmptied
  split <;> simp

@[simp] theorem appendRescue_invNext (x : Phase) (s : State) (i : Nat) : (s.appendRescue x i).engine.invNext = s.engine.invNext := by
  unfold State.appendRescue
  split <;> simp

@[simp] theorem appendStranded_invNext (i : Nat) (s : State) : (s.appendStranded i).engine.invNext = s.engine.invNext := by
  unfold State.appendStranded
  (repeat' split) <;> simp

@[simp] theorem appendSelected_invNext (x : Phase) (s : State) : (s.appendSelected x).engine.invNext = s.engine.invNext := by
  unfold State.appendSelected
  split
  · exact List.foldlRecOn (motive := fun t => t.engine.invNext = s.engine.invNext) _ _ rfl
      fun t ht i _ => (appendRescue_invNext x t i).trans ht
  · rfl

theorem State.Sound.rescueEmptied (h : s.Sound) : s.rescueEmptied.Sound :=
  h.of_frame (by simp) (by simp [State.mode]) (by simp) (by simp) (by simp)

theorem State.Sound.planResult (h : s.Sound) (k : Nat) (r : MoveResult) : (s.planResult k r).Sound :=
  h.of_frame (by simp) (by simp [State.mode]) (by simp) (by simp) (by simp)

/-- A free engine takes a move for a record that stands supplied on its from-phase (R24, R64). -/
theorem State.Sound.takeMove (h : s.Sound) (hr : s.engine.req = none) (hm : s.mode = .active)
    (hst : (s.conn m.conn).st = .steady ∨ (s.conn m.conn).st = .resting) (hcur : (s.conn m.conn).cur = some m.src)
    (hdistinct : m.src ≠ m.dst) (hdst : s.allows m.conn m.dst = true) : (s.takeMove m).Sound := by
  obtain ⟨hplain, hsrc⟩ := (Conn.sound_supplied hst).mp (h.record m.conn)
  rw [hcur] at hsrc
  have hlt : m.conn < s.conns.length := by
    rw [h.length]
    exact h.configHeld.lt_of_configured hplain.configured
  have hactive : s.mode ≠ .inventory := by simp [hm]
  have hself := conn_modConn_self hlt fun c => { c with st := .moving, note := some ⟨m.rescue, m.src, m.dst⟩ }
  have hin : State.InMove m ((s.modConn m.conn fun c => { c with st := .moving, note := some ⟨m.rescue, m.src, m.dst⟩ }).modHeld m.conn
      fun h => { h with preMove := some h.value }) := by
    refine State.InMove.of_frame (s := s.modConn m.conn fun c => { c with st := .moving, note := some ⟨m.rescue, m.src, m.dst⟩ })
      ⟨(h.soundBut (by simp [hr]) m.conn).modConn _, hplain.configured, ?_, ?_, ?_, ?_, ?_, hdistinct, hsrc, hdst, ?_⟩ rfl rfl ?_ rfl
    · rw [hself]
    · rw [hself]
    · rw [hself]
      exact hplain.member
    · rw [hself]
      exact hplain.release
    · rw [hself]
      exact hplain.attempts
    · exact hactive
    · exact hactive
  refine State.Sound.of_frame (hin.atStep (st := .arming) (n := armCycles) hm ?_ rfl) rfl rfl rfl rfl rfl
  change MoveReq.curOk _ ((s.modConn m.conn _).conn m.conn).cur = true
  rw [hself]
  simp [MoveReq.curOk, hcur]

/-- A rescue leaves a LOST phase its connection stands supplied on (R54). -/
theorem rescueFrom_some {p : Phase} (h : s.rescueFrom i = some p) :
    ((s.conn i).st = .steady ∨ (s.conn i).st = .resting) ∧ (s.conn i).cur = some p ∧ s.present p = false := by
  unfold State.rescueFrom at h
  split at h
  next hst =>
    simp only [Bool.and_eq_true, Bool.or_eq_true, beq_iff_eq] at hst
    split at h
    next q hq =>
      split at h
      next => cases h
      next hp =>
        cases h
        exact ⟨hst.2, hq, by simpa using hp⟩
    next => cases h
  next => cases h

theorem foldl_lowerEstimate_mem (l : List (Phase × Nat)) (b : Option (Phase × Nat)) {x : Phase × Nat}
    (h : l.foldl lowerEstimate b = some x) : x ∈ l ∨ b = some x := by
  induction l generalizing b with
  | nil => exact .inr h
  | cons y l ih =>
    rcases ih _ h with hx | hb
    · exact .inl (List.mem_cons_of_mem _ hx)
    · cases b with
      | none =>
        simp only [lowerEstimate, Option.some.injEq] at hb
        exact .inl (hb ▸ List.mem_cons_self)
      | some z =>
        simp only [lowerEstimate] at hb
        split at hb
        · simp only [Option.some.injEq] at hb
          exact .inl (hb ▸ List.mem_cons_self)
        · exact .inr hb

/-- A rescue target is an allowed PRESENT phase within the way limit (R55). -/
theorem rescueTarget_some {p q : Phase} {r : Int} (h : s.rescueTarget i p r = some q) :
    s.allows i q = true ∧ s.present q = true ∧ s.wayLimit s.meas.ways i q r = true := by
  obtain ⟨x, hx, rfl⟩ := Option.map_eq_some_iff.mp h
  rcases foldl_lowerEstimate_mem _ _ hx with hmem | hnone
  · obtain ⟨y, hy, rfl⟩ := List.mem_map.mp hmem
    simpa [and_assoc] using (List.mem_filter.mp hy).2
  · cases hnone

/-- A sound state with a FREE engine stays sound while the arbiter looks at its sources, whatever it takes or passes over (R60 to R63). -/
theorem State.Sound.takeRescue (h : s.Sound) (hr : s.engine.req = none) (hm : s.mode = .active) (x : RescueEntry) :
    (s.takeRescue x).Sound := by
  have hpopped : (s.modEngine fun e => { e with rescue := e.rescue.tail }).Sound := h.of_frame rfl rfl rfl rfl rfl
  simp only [State.takeRescue]
  split
  · exact hpopped.rescueEmptied
  next p hp =>
    obtain ⟨hst, hcur, hlost⟩ := rescueFrom_some hp
    split
    · exact State.Sound.rescueEmptied (hpopped.of_frame rfl rfl rfl rfl rfl)
    next q hq =>
      obtain ⟨hallowed, hpresent, -⟩ := rescueTarget_some hq
      refine hpopped.takeMove hr hm hst hcur (fun hpq => ?_) hallowed
      rw [show p = q from hpq] at hlost
      simp [hlost] at hpresent

/-- A candidate stands STEADY on its from-phase, and its target is another allowed phase (R44). -/
theorem candidate_spec {ways : List Vec} {p q : Phase} (h : s.candidate ways i p q = true) :
    (s.conn i).st = .steady ∧ (s.conn i).cur = some p ∧ p ≠ q ∧ s.allows i q = true := by
  simp only [State.candidate, Bool.and_eq_true, beq_iff_eq, bne_iff_ne] at h
  tauto

theorem State.Sound.takePlanMove (h : s.Sound) (hr : s.engine.req = none) (hm : s.mode = .active) (pos : Nat) (mv : Move) :
    (s.takePlanMove pos mv).Sound := by
  refine of_ite_of_imp (fun hc => ?_) fun _ => h.planResult _ _
  obtain ⟨hst, hcur, hne, hallowed⟩ := candidate_spec hc.1
  exact h.takeMove hr hm (.inl hst) hcur hne hallowed

/-- A due member is DARK with a recovery due, or FAULTED with a release check due (R30, R34). -/
theorem State.Sound.dueMember (h : s.Sound) {k : RecKind} (hd : s.dueMember = some (i, k)) :
    s.configured i = true ∧ ((k = .recover ∧ (s.conn i).st = .dark) ∨ (k = .check ∧ (s.conn i).st = .faulted ∧ (s.conn i).releasePending = true)) := by
  obtain ⟨j, -, hj⟩ := List.exists_of_findSome?_eq_some hd
  have hrec := h.record j
  split at hj
  next mem hmem =>
    split at hj
    next =>
      cases hj
      cases hst : (s.conn i).st with
      | steady | resting =>
        have := ((Conn.sound_supplied (by simp [hst])).mp hrec).1.member
        simp [this] at hmem
      | moving =>
        have := ((Conn.sound_moving hst).mp hrec).2.1
        simp [this] at hmem
      | faulted =>
        obtain ⟨hconf, -, -, ⟨hnone, -⟩ | ⟨l, hl, hrelease, hkind, -⟩⟩ := (Conn.sound_faulted hst).mp hrec
        · simp [hnone] at hmem
        · cases hmem.symm.trans hl
          exact ⟨hconf, .inr ⟨hkind, rfl, hrelease⟩⟩
      | dark =>
        obtain ⟨hconf, -, -, -, -, l, hl, hkind, -⟩ := (Conn.sound_dark hst).mp hrec
        cases hmem.symm.trans hl
        exact ⟨hconf, .inl ⟨hkind, rfl⟩⟩
      | darkLocked =>
        have := ((Conn.sound_darkLocked hst).mp hrec).2.2.2.2.2
        simp [this] at hmem
      | unconfigured =>
        have hun := ((Conn.sound_unconfigured hst).mp hrec).2
        rw [hun] at hmem
        cases hmem
    next => cases hj
  next => cases hj

/-- A request that is no move comes to a FREE engine in a sound state. -/
theorem State.Sound.setReq (h : s.Sound) (hr : ∀ m, s.engine.req ≠ some (.move m)) {r : Req} (hq : s.reqSound (some r) = true) :
    (s.setReq (some r)).Sound :=
  ⟨h.configHeld, h.length, h.record, fun j hj => absurd hj (h.idle hr j).still, hq, h.2.2.2.2.2⟩

theorem State.Sound.setReq_none (h : s.Sound) (hr : ∀ m, s.engine.req ≠ some (.move m)) : (s.setReq none).Sound :=
  ⟨h.configHeld, h.length, h.record, fun j hj => absurd hj (h.idle hr j).still, rfl, h.2.2.2.2.2⟩

theorem State.Sound.sendCommand (h : s.Sound) (c : ModCmd) : (s.sendCommand c).Sound := h.of_frame rfl rfl rfl rfl rfl

theorem State.Sound.takeMember (h : s.Sound) (hr : s.engine.req = none) (hm : s.mode = .active ∨ s.mode = .listenOnly) {k : RecKind}
    (hd : s.dueMember = some (i, k)) : (s.takeMember i k).Sound := by
  obtain ⟨hconf, ⟨rfl, hst⟩ | ⟨rfl, hst, hrelease⟩⟩ := h.dueMember hd
  · refine State.Sound.sendCommand (h.setReq (by simp [hr]) ?_) _
    simpa [State.reqSound, hconf, hst, RecStep.targetOk] using hm
  · refine State.Sound.sendCommand (h.setReq (by simp [hr]) ?_) _
    simpa [State.reqSound, hconf, hst, hrelease] using hm

theorem State.Sound.takeInventory (h : s.Sound) (hr : s.engine.req = none) (hm : s.mode = .inventory) : s.takeInventory.Sound := by
  refine of_ite_of_imp (fun hc => ?_) fun _ => h
  refine State.Sound.sendCommand (h.setReq (by simp [hr]) ?_) _
  simp [State.reqSound, hm, hc.2]

theorem State.Sound.arbiter (h : s.Sound) (n : Nat) : (s.arbiter n).Sound := by
  induction n generalizing s with
  | zero => exact h
  | succ n ih =>
    unfold State.arbiter
    refine of_ite_of_imp (fun _ => h) fun hfree => ?_
    have hr : s.engine.req = none := by simpa using hfree
    cases hm : s.mode with
    | loading | configFault | blackout => exact h
    | inventory => exact h.takeInventory hr hm
    | listenOnly =>
      cases hd : s.dueMember with
      | none => exact h
      | some k => exact h.takeMember hr (.inr hm) hd
    | active =>
      cases hd : s.dueMember with
      | some k => exact h.takeMember hr (.inl hm) hd
      | none =>
        cases s.engine.rescue with
        | cons x _ => exact ih (h.takeRescue hr hm x)
        | nil =>
          cases s.offeredMove with
          | none => exact h
          | some k => exact ih (h.takePlanMove hr hm k.1 k.2)

theorem State.Sound.arbitrate (h : s.Sound) : s.arbitrate.Sound := h.arbiter _

/-! ### Conclusions -/

@[simp] theorem recordConclusion_invNext (m : MoveReq) (k : Conclusion) (s : State) :
    (s.recordConclusion m k).engine.invNext = s.engine.invNext := by
  simp only [State.recordConclusion]
  (repeat' split) <;> simp

/-- A conclusion makes the record of its move idle and the engine FREE (R25 to R27, R72). -/
theorem State.InMove.concludeMove (h : s.InMove m) {k : Conclusion} (hk : k.fits (s.allows m.conn) (s.conn m.conn).cur)
    (silent holdAsked : Bool) : (s.concludeMove m k silent holdAsked).Sound := by
  have hlt : m.conn < s.conns.length := by
    rw [h.others.length]
    exact h.others.config.lt_of_configured h.configured
  have hidle : (Conn.conclude m.rescue s.conf.dwell (s.allows m.conn) k (s.conn m.conn)).Idle (s.configured m.conn) (s.allows m.conn) :=
    Conn.Plain.conclude ⟨h.configured, h.member, h.release, rfl, h.attempts⟩ hk _ _
  have hconns := (recordConclusion_records m k s).2
  have hfree (outside : Bool) : (((s.recordConclusion m k).flagConclusion m.rescue outside silent k).setReq none).Sound := by
    have hrecorded : (s.modConn m.conn (Conn.conclude m.rescue s.conf.dwell (s.allows m.conn) k)).SoundBut m.conn := h.others.modConn _
    refine State.SoundBut.free (i := m.conn) (hrecorded.of_frame (by simp) (by simp [State.mode]) (by simp [hconns])) ?_ rfl
      fun hinv => absurd hinv (by simpa [State.mode] using h.mode)
    rw [configured_congr (s := s) (by simp), allows_congr (s := s) (by simp),
      conn_congr (s := s.modConn m.conn (Conn.conclude m.rescue s.conf.dwell (s.allows m.conn) k)) (by simp [hconns]),
      conn_modConn_self hlt]
    exact hidle
  have hissue {u : State} (hu : u.Sound) (n : Nat) (r : Reason) : (u.issueHold n r).Sound :=
    hu.of_frame (by simp) (by simp [State.mode]) (by simp) (by simp) (by simp)
  simp only [State.concludeMove]
  refine State.Sound.arbitrate (of_ite_of_imp (fun _ => hissue ?_ _ _) fun _ => ?_)
  all_goals exact of_ite_of_imp (fun _ => (hfree _).rescueEmptied) fun _ => (hfree _).planResult _ _

/-! ### The steps of a move -/

theorem State.InMove.sendBreak (h : s.InMove m) (hm : s.mode = .active) (hcur : (s.conn m.conn).cur = some m.src) : (s.sendBreak m).Sound :=
  (h.atStep hm (by simp [MoveReq.curOk, hcur]) rfl).sendCommand _

theorem State.InMove.enterBreaking (h : s.InMove m) (hm : s.mode = .active) (hcur : (s.conn m.conn).cur = some m.src) :
    (s.enterBreaking m).Sound :=
  of_ite_of_imp (fun _ => h.atStep hm (by simp [MoveReq.curOk, hcur]) rfl) fun _ => h.sendBreak hm hcur

theorem State.InMove.failFallback (h : s.InMove m) : (s.failFallback m).Sound := h.concludeMove (k := .failedDark) trivial _ _

/-- A fallback target is the from-phase or another allowed phase (R68). -/
theorem fallbackTarget_allowed {x : Phase} (h : s.fallbackTarget m = some x) (hsrc : s.allows m.conn m.src = true) :
    s.allows m.conn x = true := by
  unfold State.fallbackTarget at h
  split at h
  · cases h
    exact hsrc
  · have hx := List.find?_some h
    simp only [Bool.and_eq_true] at hx
    exact hx.1.1.1

theorem State.InMove.enterFallback (h : s.InMove m) (hm : s.mode = .active) (hcur : (s.conn m.conn).cur = none) :
    (s.enterFallback m).Sound := by
  unfold State.enterFallback
  split
  next x hx => exact h.atStep hm (by simp [MoveReq.curOk, hcur]) (fallbackTarget_allowed hx h.src)
  next => exact h.failFallback

theorem State.InMove.enterGap (h : s.InMove m) (hm : s.mode = .active) (hcur : (s.conn m.conn).cur = none) : (s.enterGap m).Sound :=
  of_ite_of_imp (fun _ => h.atStep hm (by simp [MoveReq.curOk, hcur]) rfl) fun _ => h.enterFallback hm hcur

theorem State.InMove.enterSettling (h : s.InMove m) (hm : s.mode = .active) (hcur : (s.conn m.conn).cur = some m.dst) :
    (s.enterSettling m).Sound := by
  refine of_ite_of_imp (fun _ => h.atStep hm (by simp [MoveReq.curOk, hcur]) rfl) fun _ => h.concludeMove ?_ _ _
  simpa [Conclusion.fits, hcur, onAllowed] using h.dst

/-- SETTLING ends with the connection on its target (R70). -/
theorem State.Sound.endSettling (h : s.Sound) : s.endSettling.Sound := by
  unfold State.endSettling
  split
  next m hr =>
    refine of_ite_of_imp (fun hst => ?_) fun _ => h
    obtain ⟨hin, -, hcur, -⟩ := h.move hr
    simp only [MoveReq.curOk, hst, beq_iff_eq] at hcur
    refine hin.concludeMove ?_ _ _
    simpa [Conclusion.fits, hcur, onAllowed] using hin.dst
  all_goals exact h

/-! ### Recovery and release checks -/

/-- A sound recovery is of a DARK connection, outside INVENTORY (R31, R73). -/
theorem State.Sound.recovery {r : RecStep} {n : Nat} (h : s.Sound) (hr : s.engine.req = some (.recovery i r n)) :
    (s.mode = .active ∨ s.mode = .listenOnly) ∧ s.configured i = true ∧ (s.conn i).st = .dark ∧ r.targetOk (s.allows i) = true := by
  have hreq := h.request
  rw [hr] at hreq
  simpa [State.reqSound, and_assoc] using hreq

/-- A sound release check is of a FAULTED connection, outside INVENTORY (R34, R75). -/
theorem State.Sound.check {n : Nat} (h : s.Sound) (hr : s.engine.req = some (.check i n)) :
    (s.mode = .active ∨ s.mode = .listenOnly) ∧ s.configured i = true ∧ (s.conn i).st = .faulted ∧ (s.conn i).releasePending = true := by
  have hreq := h.request
  rw [hr] at hreq
  simpa [State.reqSound, and_assoc] using hreq

theorem not_inventory {mode : Mode} (h : mode = .active ∨ mode = .listenOnly) : mode ≠ .inventory := by
  rcases h with rfl | rfl <;> simp

/-- A recovery or a release check has set its record. -/
theorem finishRecovery_sound (h : (s.setReq none).Sound) (i : Nat) : (s.finishRecovery i).Sound :=
  State.Sound.arbitrate (h.of_frame (by simp) (by simp [State.mode]) (by simp) (by simp) (by simp))

/-- A recovery ends with its record idle. -/
theorem State.Sound.finish {f : Conn → Conn} (h : s.Sound) (hr : ∀ m, s.engine.req ≠ some (.move m)) (hm : s.mode ≠ .inventory)
    (hf : (s.conn i).Idle (s.configured i) (s.allows i) → (f (s.conn i)).Idle (s.configured i) (s.allows i)) (b : Bool) (fl : Flag) :
    (((s.modConn i f).setFlagIf b fl).finishRecovery i).Sound :=
  finishRecovery_sound (s := (s.modConn i f).setFlagIf b fl)
    ((h.modConn_free hr hm hf).of_frame (by simp) (by simp [State.mode]) (by simp) rfl (by simp)) i

theorem State.Sound.recoveredOn {r : RecStep} {n : Nat} (h : s.Sound) (hr : s.engine.req = some (.recovery i r n)) {x : Phase} {ok : Bool}
    (hok : ok = true → s.allows i x = true) : (s.recoveredOn i x ok).Sound := by
  obtain ⟨hm, -, hst, -⟩ := h.recovery hr
  refine finishRecovery_sound (h.modConn_free (by simp [hr]) (not_inventory hm) fun hidle => ?_) i
  obtain ⟨hconf, -, hnote, hrelease, hattempts, -⟩ := (Conn.sound_dark hst).mp hidle.sound
  exact Conn.Plain.foundOn (c := (s.conn i).leaveSet) ⟨hconf, rfl, hrelease, hnote, hattempts.trans (by decide)⟩ hok

theorem State.Sound.attemptFailed {r : RecStep} {n : Nat} (h : s.Sound) (hr : s.engine.req = some (.recovery i r n)) :
    (s.attemptFailed i).Sound := by
  obtain ⟨hm, -, hst, -⟩ := h.recovery hr
  exact h.finish (by simp [hr]) (not_inventory hm) (fun hidle => Conn.attemptFailed_idle hst hidle.sound) _ _

/-- A recovery target is the home phase or another allowed one (R74). -/
theorem recoveryTarget_allowed {x : Phase} (h : s.recoveryTarget i = some x) (hhome : s.allows i (s.homeOf i) = true) :
    s.allows i x = true := by
  unfold State.recoveryTarget at h
  split at h
  · cases h
    exact hhome
  · have hx := List.find?_some h
    simp only [Bool.and_eq_true] at hx
    exact hx.1

theorem State.Sound.recoverDark {r : RecStep} {n : Nat} (h : s.Sound) (hr : s.engine.req = some (.recovery i r n)) :
    (s.recoverDark i).Sound := by
  obtain ⟨hm, hconf, hst, -⟩ := h.recovery hr
  have hopen : (s.conn i).cur = none := Conn.cur_of_sound_dark (h.record i) hst
  have hsame : (s.modConn i fun c => { c with cur := none }) = s := modConn_eq_self (by rw [← hopen])
  simp only [State.recoverDark, hsame]
  split
  next x hx =>
    refine h.setReq (by simp [hr]) ?_
    simpa [State.reqSound, hconf, hst, RecStep.targetOk, recoveryTarget_allowed hx (h.configHeld.home_allowed hconf)] using hm
  next =>
    exact finishRecovery_sound (h.modConn_free (by simp [hr]) (not_inventory hm) fun hidle =>
      ⟨Conn.setRetry_sound (by decide) hidle.sound, hidle.still⟩) i

/-- A release check sets a FAULTED record whose release is pending (R34). -/
theorem State.Sound.releaseChecked {n : Nat} (h : s.Sound) (hr : s.engine.req = some (.check i n)) (a : Option (Option Phase)) :
    (s.releaseChecked i a).Sound := by
  obtain ⟨hm, -, hst, -⟩ := h.check hr
  refine h.finish (by simp [hr]) (not_inventory hm) (fun hidle => ?_) _ _
  obtain ⟨hconf, hnote, hattempts, -⟩ := (Conn.sound_faulted hst).mp hidle.sound
  exact Conn.Plain.checked ⟨hconf, rfl, rfl, hnote, hattempts⟩ hst a

end Sys2Proof.Machine


/-! Every row of the commands keeps the records and the request sound (O57): the engine's rows one by one, the entries to the modes, and
the loading of an image, whose clamps give a configuration the records fit. -/

namespace Sys2Proof.Machine

variable {s t : State} {i : Nat} {m : MoveReq}

/-! ### Cycles -/

theorem MoveReq.curOk_cycles (n : Nat) (cur : Option Phase) : MoveReq.curOk { m with cycles := n } cur = m.curOk cur := rfl

theorem reqSound_count (n : Nat) (r : Req) : s.reqSound (some (r.count n)) = s.reqSound (some r) := by
  rcases r with m | _ | _ | _ <;> rfl

/-- Counting the request's cycles is no matter of its soundness (R58). -/
theorem State.Sound.counted (h : s.Sound) (n : Nat) (hcfg : t.cfg = s.cfg) (hmode : t.mode = s.mode) (hconns : t.conns = s.conns)
    (hreq : t.engine.req = s.engine.req.map (Req.count n)) (hnext : t.engine.invNext = s.engine.invNext) : t.Sound := by
  have hsame : State.Sound { s with engine := { s.engine with req := s.engine.req.map (Req.count n) } } := by
    refine ⟨h.configHeld, h.length, h.record, fun j hj => ?_, ?_, h.2.2.2.2.2⟩
    · obtain ⟨m, hm, hconn⟩ := h.moving hj
      exact ⟨{ m with cycles := m.cycles - n }, by simp [hm, Req.count], hconn⟩
    · have hreq := h.request
      cases hr : s.engine.req with
      | none =>
        rw [Option.map_none]
        rfl
      | some r =>
        rw [hr] at hreq
        exact (reqSound_count n r).trans hreq
  exact hsame.of_frame hcfg hmode hconns hreq hnext

@[simp] theorem cyclesPass_invNext (n : Nat) (s : State) : (s.cyclesPass n).engine.invNext = s.engine.invNext := by
  simp [State.cyclesPass]

theorem State.Sound.cyclesPass (h : s.Sound) (n : Nat) : (s.cyclesPass n).Sound :=
  h.counted n (by simp) (by simp [State.mode]) (by simp) (by simp) (by simp)

theorem State.Sound.of_expired {r : Req} (h : s.Sound) (he : s.expired = some (r, t)) : t.Sound ∧ t.engine.req = some r := by
  refine ⟨?_, req_of_expired he⟩
  obtain ⟨q, -, -, -, rfl⟩ := s.expired_some r t he
  exact h.cyclesPass q.left

/-! ### Answers -/

theorem State.Sound.budgetStart (h : s.Sound) : s.budgetStart.Sound :=
  h.of_frame (by simp) (by simp [State.mode]) (by simp) (by simp) (by simp)

/-- A move whose path is closed stands on its from-phase until its BREAK is answered (R23). -/
theorem State.Sound.move_cur_src (h : s.Sound) (hr : s.engine.req = some (.move m))
    (hst : m.step = .arming ∨ m.step = .breakWait ∨ m.step = .breakSent ∨ m.step = .breakQuery) : (s.conn m.conn).cur = some m.src := by
  obtain ⟨-, -, hcur, -⟩ := h.move hr
  rcases hst with hst | hst | hst | hst <;> simpa [MoveReq.curOk, hst] using hcur

/-- No path is closed from OPENED to CLOSED (R23). -/
theorem State.Sound.move_cur_none (h : s.Sound) (hr : s.engine.req = some (.move m))
    (hst : m.step = .gap ∨ m.step = .making ∨ ∃ x, m.step = .fbWait x ∨ m.step = .fbMake x) : (s.conn m.conn).cur = none := by
  obtain ⟨-, -, hcur, -⟩ := h.move hr
  rcases hst with hst | hst | ⟨x, hst | hst⟩ <;> simpa [MoveReq.curOk, hst] using hcur

theorem State.Sound.ready (h : s.Sound) (path : Option Phase) (good : Bool) : (s.ready i path good).Sound := by
  unfold State.ready
  split
  next m ha =>
    refine of_ite_of_imp (fun hst => ?_) fun _ => h
    have hr := req_of_answered ha
    obtain ⟨hin, hm, -⟩ := h.move hr
    unfold State.readyTaken
    cases path with
    | none => exact hin.concludeMove (k := .failedDark) trivial _ _
    | some x =>
      refine of_ite_of_imp (fun _ => ?_) fun _ => hin.concludeMove (k := .skippedOn x) trivial _ _
      have hstarted : (if m.rescue then s else s.budgetStart).Sound := of_ite_of_imp (fun _ => h) fun _ => h.budgetStart
      have hreq : (if m.rescue then s else s.budgetStart).engine.req = some (.move m) := by
        split <;> simp [hr]
      exact (hstarted.move hreq).1.enterBreaking (hstarted.move hreq).2.1 (hstarted.move_cur_src hreq (.inl hst))
  next => exact h

theorem State.Sound.notReady (h : s.Sound) (good : Bool) : (s.notReady i good).Sound := by
  unfold State.notReady
  split
  next m ha =>
    refine of_ite_of_imp (fun hst => ?_) fun _ => h
    have hr := req_of_answered ha
    obtain ⟨hin, -, -, -⟩ := h.move hr
    refine hin.concludeMove ?_ _ _
    simpa [Conclusion.fits, h.move_cur_src hr (.inl hst), onAllowed] using hin.src
  next => exact h

theorem State.Sound.opened (h : s.Sound) (good : Bool) : (s.opened i good).Sound := by
  unfold State.opened
  split
  next m ha =>
    refine of_ite_of_imp (fun _ => ?_) fun _ => h
    obtain ⟨hin, hm, -, -⟩ := h.move (req_of_answered ha)
    obtain ⟨hopen, hcur⟩ := hin.setCur none
    exact hopen.enterGap hm hcur
  next => exact h

theorem State.Sound.sendBreakQuery (h : s.Sound) (hr : s.engine.req = some (.move m)) (hst : m.step = .breakSent) :
    (s.sendBreakQuery m).Sound := by
  obtain ⟨hin, hm, -, -⟩ := h.move hr
  exact (hin.atStep hm (by simp [MoveReq.curOk, h.move_cur_src hr (.inr (.inr (.inl hst)))]) rfl).sendCommand _

/-- A refused command, or its silence, in a sound state (R65, R67, R69, R73). -/
theorem State.Sound.refused {r : Req} (h : s.Sound) (hr : s.engine.req = some r) : (s.refused r).Sound := by
  unfold State.refused
  split
  next m =>
    obtain ⟨hin, hm, -, -⟩ := h.move hr
    cases hst : m.step with
    | breakSent => exact h.sendBreakQuery hr hst
    | making => exact hin.enterFallback hm (h.move_cur_none hr (.inr (.inl hst)))
    | fbMake => exact hin.failFallback
    | arming | breakWait | breakQuery | gap | fbWait | settling => exact h
  next => exact h.attemptFailed hr
  all_goals exact h

theorem State.Sound.nak (h : s.Sound) (good : Bool) : (s.nak i good).Sound := by
  unfold State.nak
  cases ha : s.answered i good with
  | some r => exact h.refused (req_of_answered ha)
  | none => exact h

theorem State.Sound.closedTaken {r : Req} (h : s.Sound) (hr : s.engine.req = some r) (x : Phase) : (s.closedTaken r x).Sound := by
  unfold State.closedTaken
  split
  next m =>
    obtain ⟨hin, hm, -, -⟩ := h.move hr
    cases m.step with
    | making =>
      refine of_ite_of_imp (fun hx => ?_) fun _ => hin.concludeMove (k := .failedOn x) trivial _ _
      obtain ⟨hclosed, hcur⟩ := hin.setCur (some x)
      exact hclosed.enterSettling hm (hx ▸ hcur)
    | fbMake => exact hin.concludeMove (k := .failedOn x) trivial _ _
    | arming | breakWait | breakSent | breakQuery | gap | fbWait | settling => exact h
  next j y _ =>
    refine h.recoveredOn hr fun hxy => ?_
    obtain ⟨-, -, -, htarget⟩ := h.recovery hr
    rw [beq_iff_eq] at hxy
    exact hxy ▸ htarget
  all_goals exact h

theorem State.Sound.closed (h : s.Sound) (x : Phase) (good : Bool) : (s.closed i x good).Sound := by
  unfold State.closed
  cases ha : s.answered i good with
  | some r => exact h.closedTaken (req_of_answered ha) x
  | none => exact h

/-- A sound inventory query asks the next configured connection, as inventory left its record (R75). -/
theorem State.Sound.inventoryQuery {n : Nat} (h : s.Sound) (hr : s.engine.req = some (.inventory i n)) :
    s.mode = .inventory ∧ s.configured i = true ∧ i = s.engine.invNext := by
  have hreq := h.request
  rw [hr] at hreq
  simpa [State.reqSound, and_assoc] using hreq

/-- An inventory query sets its record and asks the next connection, or leads to LISTEN_ONLY (R33, R170). -/
theorem State.Sound.inventoryAnswer {n : Nat} (h : s.Sound) (hr : s.engine.req = some (.inventory i n)) (a : Option (Option Phase)) :
    (s.inventoryAnswer i a).Sound := by
  obtain ⟨hm, hconf, hnext⟩ := h.inventoryQuery hr
  have hnomove : ∀ m, s.engine.req ≠ some (.move m) := by simp [hr]
  have hunasked := h.2.2.2.2.2 hm
  have hself := conn_modConn_self (s := s) (h.length ▸ h.configHeld.lt_of_configured hconf) (Conn.inventoried (s.allows i) a)
  have hset : (((s.modConn i (Conn.inventoried (s.allows i) a)).setFlagIf a.isNone .moduleSilent).modEngine fun e =>
      { e with req := none, invNext := i + 1 }).Sound := by
    refine State.SoundBut.free (i := i) (((h.soundBut hnomove i).modConn (Conn.inventoried (s.allows i) a)).of_frame (by simp) (by simp [State.mode]) (by simp)) ?_ rfl
      fun _ j hj hc => ?_
    · rw [configured_congr (s := s) (by simp), allows_congr (s := s) (by simp),
        conn_congr (s := s.modConn i (Conn.inventoried (s.allows i) a)) (by simp), hself]
      have hrec := hunasked i (by simp [hnext]) hconf
      simp only [Conn.unasked, Bool.and_eq_true, beq_iff_eq, Option.isNone_iff_eq_none, Bool.not_eq_true'] at hrec
      obtain ⟨⟨⟨hst, hmember⟩, hrelease⟩, hnote⟩ := hrec
      have hattempts := ((Conn.sound_faulted hst).mp (h.record i)).2.2.1
      exact Conn.Plain.inventoried ⟨hconf, hmember, hrelease, hnote, hattempts⟩ hst a
    · have hij : i + 1 ≤ j := hj
      rw [configured_congr (s := s) (by simp)] at hc
      rw [conn_congr (s := s.modConn i (Conn.inventoried (s.allows i) a)) (by simp), conn_modConn_of_ne (by omega)]
      exact hunasked j (by omega) hc
  simp only [State.inventoryAnswer, State.finishInventoryQuery]
  refine of_ite_of_imp (fun _ => hset.arbitrate) fun _ => State.Sound.arbitrate ?_
  refine State.SoundBut.free (i := i) ((hset.soundBut (by simp) i).of_frame rfl ?_ rfl) (hset.idle (by simp) i) rfl fun hinv => (nomatch hinv)
  have hworking : Mode.listenOnly.working = s.station.mode.working := (congrArg Mode.working hm).symm
  simpa [State.mode, State.enterMode, State.modStation] using hworking

/-! ### The image -/

/-- The clamps give a configuration its connections, home phases and way boundaries fit (R17, R19, R21). -/
theorem clampConn_home (b : Byte) : (clampConn b).val.allowed.get (clampConn b).val.home = true := by
  simp only [clampConn]
  split
  next h => exact h
  next => simp

theorem clampImage_clamped (im : List Byte) : (clampImage im).val.Clamped := by
  have hcount : 1 ≤ (clampImage im).val.count ∧ (clampImage im).val.count ≤ 32 := by
    simp only [clampImage, clampNat]
    omega
  refine ⟨hcount.1, hcount.2, ?_, fun x hx => ?_, ?_⟩
  · simp [clampImage]
  · simp only [clampImage, List.map_map, List.mem_map] at hx
    obtain ⟨k, -, rfl⟩ := hx
    exact clampConn_home _
  · simp only [clampImage, clampBounds]
    refine ⟨_, _, _, rfl, ?_, ?_, ?_⟩ <;> omega

/-! ### Answers to a QUERY, and timeouts -/

theorem State.Sound.queryTaken {r : Req} (h : s.Sound) (hr : s.engine.req = some r) (path : Option Phase) : (s.queryTaken r path).Sound := by
  unfold State.queryTaken
  split
  next m =>
    obtain ⟨hin, hm, -, -⟩ := h.move hr
    cases m.step with
    | breakQuery =>
      cases path with
      | some x => exact hin.concludeMove (k := .failedOn x) trivial _ _
      | none =>
        obtain ⟨hopen, hcur⟩ := hin.setCur none
        exact hopen.enterFallback hm hcur
    | arming | breakWait | breakSent | gap | making | fbWait | fbMake | settling => exact h
  next j _ =>
    cases path with
    | some x => exact h.recoveredOn hr id
    | none => exact h.recoverDark hr
  next j _ => exact h.releaseChecked hr _
  next j _ => exact h.inventoryAnswer hr _
  all_goals exact h

theorem State.Sound.queryAnswer (h : s.Sound) (path : Option Phase) (good : Bool) : (s.queryAnswer i path good).Sound := by
  unfold State.queryAnswer
  cases ha : s.answered i good with
  | some r => exact h.queryTaken (req_of_answered ha) path
  | none => exact h

theorem State.Sound.armTimeout (h : s.Sound) : s.armTimeout.Sound := by
  unfold State.armTimeout
  split
  next m t he =>
    obtain ⟨ht, hr⟩ := h.of_expired he
    exact of_ite_of_imp (fun _ => (ht.move hr).1.concludeMove (k := .failedOn m.src) trivial _ _) fun _ => h
  next => exact h

theorem State.Sound.breakTimeout (h : s.Sound) : s.breakTimeout.Sound := by
  unfold State.breakTimeout
  split
  next m t he =>
    obtain ⟨ht, hr⟩ := h.of_expired he
    exact of_ite_of_imp (fun hst => ht.sendBreakQuery hr hst) fun _ => h
  next => exact h

theorem State.Sound.closedTimeout (h : s.Sound) : s.closedTimeout.Sound := by
  unfold State.closedTimeout
  split
  next r t he =>
    obtain ⟨ht, hr⟩ := h.of_expired he
    exact of_ite_of_imp (fun _ => ht.refused hr) fun _ => h
  next => exact h

theorem State.Sound.queryTimeout (h : s.Sound) : s.queryTimeout.Sound := by
  unfold State.queryTimeout
  split
  next m t he =>
    obtain ⟨ht, hr⟩ := h.of_expired he
    exact of_ite_of_imp (fun _ => (ht.move hr).1.concludeMove (k := .failedDark) trivial _ _) fun _ => h
  next j n t he =>
    obtain ⟨ht, hr⟩ := h.of_expired he
    exact State.Sound.attemptFailed (s := t.setFlag .moduleSilent) (ht.of_frame rfl rfl rfl rfl rfl) hr
  next j n t he =>
    obtain ⟨ht, hr⟩ := h.of_expired he
    exact ht.releaseChecked hr _
  next j n t he =>
    obtain ⟨ht, hr⟩ := h.of_expired he
    exact ht.inventoryAnswer hr _
  all_goals exact h

theorem State.Sound.gapLimit (h : s.Sound) : s.gapLimit.Sound := by
  unfold State.gapLimit
  split
  next m t he =>
    obtain ⟨ht, hr⟩ := h.of_expired he
    obtain ⟨hin, hm, -, -⟩ := ht.move hr
    exact of_ite_of_imp (fun hst => hin.enterFallback hm (ht.move_cur_none hr (.inl hst))) fun _ => h
  next => exact h

theorem State.Sound.fallbackWaitLimit (h : s.Sound) : s.fallbackWaitLimit.Sound := by
  unfold State.fallbackWaitLimit
  split
  next m t he =>
    obtain ⟨ht, hr⟩ := h.of_expired he
    cases m.step with
    | fbWait => exact (ht.move hr).1.failFallback
    | arming | breakWait | breakSent | breakQuery | gap | making | fbMake | settling => exact h
  next => exact h

theorem State.Sound.recoveryWaitLimit (h : s.Sound) : s.recoveryWaitLimit.Sound := by
  unfold State.recoveryWaitLimit
  split
  next j x n t he =>
    obtain ⟨ht, hr⟩ := h.of_expired he
    exact ht.attemptFailed hr
  next => exact h

/-! ### Crossings and phase losses -/

/-- A crossing sends the command held for it, and the request goes on at the step of its answer (R65, R66, R68, R73). -/
theorem State.Sound.engineCrossing (h : s.Sound) (p : Phase) : (s.engineCrossing p).Sound := by
  unfold State.engineCrossing
  split
  next m hr =>
    obtain ⟨hin, hm, hcur, htarget⟩ := h.move hr
    cases hst : m.step with
    | breakWait => exact of_ite_of_imp (fun _ => hin.sendBreak hm (h.move_cur_src hr (.inr (.inl hst)))) fun _ => h
    | gap =>
      refine of_ite_of_imp (fun _ => (hin.atStep hm ?_ rfl).sendCommand _) fun _ => h
      simp [MoveReq.curOk, h.move_cur_none hr (.inl hst)]
    | fbWait x =>
      refine of_ite_of_imp (fun _ => (hin.atStep hm ?_ ?_).sendCommand _) fun _ => h
      · simp [MoveReq.curOk, h.move_cur_none hr (.inr (.inr ⟨x, .inl hst⟩))]
      · simpa [MoveReq.targetOk, hst] using htarget
    | arming | breakSent | breakQuery | making | fbMake | settling => exact h
  next j x n hr =>
    obtain ⟨hm, hconf, hst, htarget⟩ := h.recovery hr
    refine of_ite_of_imp (fun _ => (h.setReq (by simp [hr]) ?_).sendCommand _) fun _ => h
    simpa [State.reqSound, hconf, hst, RecStep.targetOk] using ⟨hm, htarget⟩
  all_goals exact h

theorem State.Sound.engineLoss (h : s.Sound) (x : Phase) : (s.engineLoss x).Sound := by
  unfold State.engineLoss
  split
  next m hr =>
    obtain ⟨hin, hm, -, -⟩ := h.move hr
    cases hst : m.step with
    | breakWait => exact of_ite_of_imp (fun _ => hin.sendBreak hm (h.move_cur_src hr (.inr (.inl hst)))) fun _ => h
    | gap => exact of_ite_of_imp (fun _ => hin.enterFallback hm (h.move_cur_none hr (.inl hst))) fun _ => h
    | fbWait => exact of_ite_of_imp (fun _ => hin.failFallback) fun _ => h
    | arming | breakSent | breakQuery | making | fbMake | settling => exact h
  next j y n hr => exact of_ite_of_imp (fun _ => h.attemptFailed hr) fun _ => h
  next => exact h
  next => exact h
  next => exact h
  next => exact h
  next => exact h.arbitrate

/-! ### The modes -/

/-- Where a move is given up, its connection is on an allowed phase, dark, or FAULTED (R80). -/
theorem State.Sound.abandoned_fits (h : s.Sound) (hr : s.engine.req = some (.move m)) :
    m.abandoned.fits (s.allows m.conn) (s.conn m.conn).cur := by
  obtain ⟨hin, -, hcur, -⟩ := h.move hr
  unfold MoveReq.abandoned
  cases hst : m.step with
  | settling =>
    simp only [MoveReq.curOk, hst, beq_iff_eq] at hcur
    simpa [Conclusion.fits, hcur, onAllowed] using hin.dst
  | arming | breakWait | breakSent | breakQuery | gap | making | fbWait | fbMake => exact trivial

/-- BLACKOUT begins with the request of the mode before it abandoned (R80, R173). -/
theorem State.Sound.abandonRequest (h : s.Sound) (hcfg : t.cfg = s.cfg) (hm : t.mode = .blackout) (hw : s.mode.working = true)
    (hconns : t.conns = s.conns) (hreq : t.engine.req = s.engine.req) : t.abandonRequest.Sound := by
  have hworking : t.mode.working = s.mode.working := by rw [hw, hm]; rfl
  have hnotInv : t.mode ≠ .inventory := by simp [hm]
  have hidle (hr : ∀ m, s.engine.req ≠ some (.move m)) (j : Nat) {f : Conn → Conn}
      (hf : (s.conn j).Idle (s.configured j) (s.allows j) → (f (s.conn j)).Idle (s.configured j) (s.allows j)) :
      ((t.modConn j f).setReq none).Sound := by
    refine State.SoundBut.free (i := j) (((h.soundBut hr j).modConn f).of_frame hcfg hworking (by simp [hconns])) ?_ rfl
      fun hinv => absurd hinv hnotInv
    rw [configured_congr (s := s) (by simpa using hcfg), allows_congr (s := s) (by simpa using hcfg),
      conn_congr (s := s.modConn j f) (by simp [hconns]), conn_modConn]
    split
    · exact hf (h.idle hr j)
    · exact h.idle hr j
  unfold State.abandonRequest
  split
  next m hr =>
    rw [hreq] at hr
    refine State.InMove.concludeMove ((h.move hr).1.of_frame hcfg hworking hnotInv hconns) ?_ _ _
    rw [allows_congr hcfg, conn_congr hconns]
    exact h.abandoned_fits hr
  next j r n hr =>
    rw [hreq] at hr
    exact hidle (by simp [hr]) j fun hj => ⟨Conn.setRetry_sound (by decide) hj.sound, hj.still⟩
  next j n hr =>
    rw [hreq] at hr
    exact hidle (by simp [hr]) j fun hj => ⟨Conn.setRetry_sound (by decide) hj.sound, hj.still⟩
  next j n hr =>
    rw [hreq] at hr
    have hsame := hidle (by simp [hr]) j (f := id) id
    rwa [modConn_eq_self rfl] at hsame
  next hr =>
    rw [hreq] at hr
    have hsame := hidle (by simp [hr]) 0 (f := id) id
    rw [modConn_eq_self rfl] at hsame
    exact hsame.of_frame rfl rfl rfl (hr ▸ hreq) rfl

/-- LISTEN_ONLY, ACTIVE and BLACKOUT take over the records and a request that is no move and no inventory query. -/
theorem State.Sound.enterMode {mode : Mode} (h : s.Sound) (n : Option Nat) (hw : s.mode.working = true)
    (hmode : mode = .active ∨ mode = .listenOnly) (hfrom : s.mode ≠ .inventory) (hr : ∀ m, s.engine.req ≠ some (.move m)) :
    (s.enterMode mode n).Sound := by
  have hworking : (s.enterMode mode n).mode.working = s.mode.working := by
    rw [hw]
    rcases hmode with rfl | rfl <;> rfl
  refine ⟨(configHeld_congr (s := s) (t := s.enterMode mode n) rfl hworking).mpr h.configHeld, h.length, h.record, fun j hj => absurd hj (h.idle hr j).still, ?_,
    fun hinv => absurd hinv (not_inventory hmode)⟩
  have hreq := h.request
  cases hq : s.engine.req with
  | none =>
    rw [show (s.enterMode mode n).engine.req = none from hq]
    rfl
  | some r =>
    rw [hq] at hreq
    rw [show (s.enterMode mode n).engine.req = some r from hq]
    rcases r with m | ⟨j, st, k⟩ | ⟨j, k⟩ | ⟨j, k⟩
    · exact absurd hq (hr m)
    · obtain ⟨-, hconf, hst, htarget⟩ := h.recovery hq
      simp only [State.reqSound, Bool.and_eq_true]
      refine ⟨⟨⟨?_, hconf⟩, beq_iff_eq.mpr hst⟩, htarget⟩
      rcases hmode with rfl | rfl <;> rfl
    · obtain ⟨-, hconf, hst, hrelease⟩ := h.check hq
      simp only [State.reqSound, Bool.and_eq_true]
      refine ⟨⟨⟨?_, hconf⟩, beq_iff_eq.mpr hst⟩, hrelease⟩
      rcases hmode with rfl | rfl <;> rfl
    · exact absurd (h.inventoryQuery hq).1 hfrom

/-- Outside ACTIVE no move is in flight (R71). -/
theorem State.Sound.no_move (h : s.Sound) (hm : s.mode ≠ .active) (m : MoveReq) : s.engine.req ≠ some (.move m) :=
  fun hr => hm (h.move hr).2.1

/-- INVENTORY begins from a configuration, the records beyond its count untouched (R32). -/
theorem beginInventory_sound (hcfg : ∃ c, s.cfg = some c ∧ c.Clamped) (hlen : s.conns.length = 32)
    (hrest : ∀ j, s.configured j = false → s.conn j = Conn.unconfigured) : s.beginInventory.Sound := by
  obtain ⟨c, hc, hclamped⟩ := hcfg
  refine State.Sound.arbitrate ?_
  have hconfig : s.cfg.isSome = true ∧ ∀ c, s.cfg = some c → c.Clamped := by
    refine ⟨by simp [hc], fun d hd => ?_⟩
    cases hc.symm.trans hd
    exact hclamped
  have hcount (j : Nat) (hj : s.configured j = true) : j < s.conns.length := by
    have hlt : j < s.conf.count := by simpa [State.configured] using hj
    rw [State.conf, hc] at hlt
    rw [hlen]
    exact Nat.lt_of_lt_of_le hlt hclamped.2.1
  have hconn (j : Nat) : (s.conns.mapIdx fun i d => if s.configured i then Conn.uninventoried else d).getD j Conn.unconfigured
      = if s.configured j then Conn.uninventoried else Conn.unconfigured := by
    by_cases hj : s.configured j = true
    · simp [List.getD_eq_getElem?_getD, hcount j hj, hj]
    · have hun := hrest j (by simpa using hj)
      rw [State.conn, List.getD_eq_getElem?_getD] at hun
      rw [if_neg hj, List.getD_eq_getElem?_getD, List.getElem?_mapIdx]
      cases hg : s.conns[j]? with
      | none => rfl
      | some d =>
        rw [hg] at hun
        simpa [hj] using hun
  have hrec (j : Nat) : ((s.conns.mapIdx fun i d => if s.configured i then Conn.uninventoried else d).getD j Conn.unconfigured).Idle
      (s.configured j) (s.allows j) := by
    rw [hconn]
    cases hj : s.configured j with
    | true => exact Conn.Plain.idle ⟨rfl, rfl, rfl, rfl, by decide⟩ (.inl rfl)
    | false => exact ⟨by simp [Conn.sound, Conn.unconfigured], by simp [Conn.unconfigured]⟩
  refine ⟨hconfig, by simpa using hlen, fun j => (hrec j).sound, fun j hj => absurd hj (hrec j).still, rfl, fun _ j _ hj => ?_⟩
  change ((s.conns.mapIdx fun i d => if s.configured i then Conn.uninventoried else d).getD j Conn.unconfigured).unasked = true
  rw [hconn, if_pos (show s.configured j = true from hj)]
  rfl

/-- What a sound state knows of the records beyond its configuration (R17). -/
theorem State.Sound.unconfigured (h : s.Sound) {j : Nat} (hj : s.configured j = false) : s.conn j = Conn.unconfigured := by
  rcases Conn.configured_of_sound (h.record j) with hc | ⟨-, hc⟩
  · simp [hj] at hc
  · exact hc

/-- In a working mode a configuration is held (R163). -/
theorem State.Sound.held_config (h : s.Sound) (hw : s.mode.working = true) : ∃ c, s.cfg = some c ∧ c.Clamped := by
  obtain ⟨hsome, hclamped⟩ := h.configHeld
  rw [hw, Option.isSome_iff_exists] at hsome
  obtain ⟨c, hc⟩ := hsome
  exact ⟨c, hc, hclamped c hc⟩

theorem State.Sound.beginInventory (h : s.Sound) (hw : s.mode.working = true) (hcfg : t.cfg = s.cfg) (hconns : t.conns = s.conns) :
    t.beginInventory.Sound := by
  refine beginInventory_sound (hcfg ▸ h.held_config hw) (hconns ▸ h.length) fun j hj => ?_
  rw [configured_congr hcfg] at hj
  rw [conn_congr hconns]
  exact h.unconfigured hj

/-- In LOADING no record is configured yet (R17, R163). -/
theorem State.Sound.endLoading (h : s.Sound) (hm : s.mode = .loading) (im : List Byte) : (s.endLoading (clampImage im)).Sound := by
  have hnone : s.cfg = none := by
    have hsome := h.configHeld.1
    rwa [hm, show Mode.loading.working = false from rfl, Option.isSome_eq_false_iff, Option.isNone_iff_eq_none] at hsome
  have hall (j : Nat) : s.conn j = Conn.unconfigured :=
    h.unconfigured (by simp [State.configured, State.conf, hnone, Cfg.blank])
  refine beginInventory_sound ⟨_, by simp, clampImage_clamped im⟩ (by simpa using h.length) fun j _ => ?_
  rw [conn_congr (s := s) (by simp)]
  exact hall j

/-- What a tick or a dwell's end leaves of a record: a RESTING connection may have gone to STEADY, and times may have run (R28, R30). -/
structure Conn.Rested (c d : Conn) : Prop where
  st : d.st = c.st ∨ c.st = .resting ∧ d.st = .steady
  cur : d.cur = c.cur
  note : d.note = c.note
  release : d.releasePending = c.releasePending
  member : c.member = none → d.member = none

/-- Records that have only rested are as sound together as they are one by one. -/
theorem State.Sound.rested (h : s.Sound) (hcfg : t.cfg = s.cfg) (hmode : t.mode = s.mode) (hlen : t.conns.length = s.conns.length)
    (hreq : t.engine.req = s.engine.req) (hnext : t.engine.invNext = s.engine.invNext)
    (hconn : ∀ j, (s.conn j).Rested (t.conn j) ∧ (t.conn j).sound (s.configured j) (s.allows j) = true) : t.Sound := by
  have hst (j : Nat) (hj : (s.conn j).st ≠ .resting) : (t.conn j).st = (s.conn j).st := by
    rcases (hconn j).1.st with he | ⟨hr, -⟩
    · exact he
    · exact absurd hr hj
  have hrequest : t.reqSound t.engine.req = true := by
    have hold := h.request
    rw [hreq]
    cases hr : s.engine.req with
    | none => rfl
    | some r =>
      rw [hr] at hold
      rcases r with m | ⟨j, st, k⟩ | ⟨j, k⟩ | ⟨j, k⟩
      · have hkept := hst m.conn (by simp [(h.move hr).1.st])
        obtain ⟨-, hcur, hnote, -, -⟩ := (hconn m.conn).1
        simp only [State.reqSound, hmode, configured_congr hcfg, allows_congr hcfg, hkept, hcur, hnote]
        exact hold
      · have hkept := hst j (by simp [(h.recovery hr).2.2.1])
        simp only [State.reqSound, hmode, configured_congr hcfg, allows_congr hcfg, hkept]
        exact hold
      · have hkept := hst j (by simp [(h.check hr).2.2.1])
        simp only [State.reqSound, hmode, configured_congr hcfg, hkept, (hconn j).1.release]
        exact hold
      · simp only [State.reqSound, hmode, configured_congr hcfg, hnext]
        exact hold
  refine ⟨(configHeld_congr hcfg (by rw [hmode])).mpr h.configHeld, hlen.trans h.length, fun j => ?_, fun j hj => ?_, hrequest,
    fun hinv j hj hc => ?_⟩
  · rw [configured_congr hcfg, allows_congr hcfg]
    exact (hconn j).2
  · rw [hreq]
    rcases (hconn j).1.st with he | ⟨-, hsteady⟩
    · exact h.moving (he ▸ hj)
    · simp [hsteady] at hj
  · rw [hnext] at hj
    rw [configured_congr hcfg] at hc
    have hrec := h.2.2.2.2.2 (hmode ▸ hinv) j hj hc
    obtain ⟨-, -, hnote, hrelease, hmember⟩ := (hconn j).1
    simp only [Conn.unasked, Bool.and_eq_true, beq_iff_eq, Option.isNone_iff_eq_none, Bool.not_eq_true'] at hrec ⊢
    obtain ⟨⟨⟨hfaulted, hnone⟩, hpending⟩, hfree⟩ := hrec
    exact ⟨⟨⟨(hst j (by simp [hfaulted])).trans hfaulted, hmember hnone⟩, hrelease.trans hpending⟩, hnote.trans hfree⟩

theorem State.Sound.countSecond (h : s.Sound) : s.countSecond.Sound := by
  have hconn (j : Nat) : s.countSecond.conn j = (s.conn j).second := by
    simp only [State.conn, State.countSecond, List.getD_eq_getElem?_getD, List.getElem?_map]
    cases s.conns[j]? <;> rfl
  refine h.rested rfl rfl (by simp [State.countSecond]) rfl rfl fun j => ?_
  rw [hconn]
  refine ⟨⟨?_, rfl, rfl, rfl, fun hm => by simp [Conn.second, hm]⟩, Conn.second_sound (h.record j)⟩
  simp only [Conn.second]
  split
  next hr => exact .inr ⟨hr.1, rfl⟩
  next => exact .inl rfl

/-- A RESTING connection without dwell goes to STEADY, which no request looks at (R28). -/
theorem State.Sound.dwellEnd (h : s.Sound) (i : Nat) :
    (s.modConn i fun c => { c with st := if c.st = .resting ∧ c.dwell = 0 ∧ c.unticked = false then .steady else c.st }).Sound := by
  refine h.rested rfl rfl (by simp) rfl rfl fun j => ?_
  rw [conn_modConn]
  split
  · refine ⟨⟨?_, rfl, rfl, rfl, id⟩, Conn.steadied_sound (h.record j) _⟩
    dsimp only
    split
    next hr => exact .inr ⟨hr.1, rfl⟩
    next => exact .inl rfl
  · exact ⟨⟨.inl rfl, rfl, rfl, rfl, id⟩, h.record j⟩

/-- A record that no request is about changes to another idle one, outside INVENTORY. -/
theorem State.Sound.modConn_unasked (h : s.Sound) (hm : s.mode ≠ .inventory) {f : Conn → Conn}
    (hst : (s.conn i).st = .faulted ∧ (s.conn i).releasePending = false ∨ (s.conn i).st = .darkLocked)
    (hf : (f (s.conn i)).Idle (s.configured i) (s.allows i)) : (s.modConn i f).Sound := by
  have hconn (j : Nat) (hj : j ≠ i) : (s.modConn i f).conn j = s.conn j := conn_modConn_of_ne hj f
  have hidle (j : Nat) : (s.modConn i f).conn j = s.conn j ∨ j = i ∧ (s.modConn i f).conn j = f (s.conn i) := by
    rw [conn_modConn]
    split
    next hj => exact .inr ⟨hj.1.symm, by rw [hj.1]⟩
    next => exact .inl rfl
  refine ⟨h.configHeld, by simpa using h.length, fun j => ?_, fun j hj => ?_, ?_, fun hinv => absurd hinv hm⟩
  · change ((s.modConn i f).conn j).sound (s.configured j) (s.allows j) = true
    rcases hidle j with he | ⟨rfl, he⟩
    · exact he ▸ h.record j
    · exact he ▸ hf.sound
  · rcases hidle j with he | ⟨rfl, he⟩
    · exact h.moving (he ▸ hj)
    · exact absurd (he ▸ hj) hf.still
  · have hold := h.request
    rw [show (s.modConn i f).engine.req = s.engine.req from rfl]
    cases hr : s.engine.req with
    | none => rfl
    | some r =>
      rw [hr] at hold
      rcases r with m | ⟨j, st, k⟩ | ⟨j, k⟩ | ⟨j, k⟩
      · have hne : m.conn ≠ i := by
          rintro rfl
          simp [(h.move hr).1.st] at hst
        simp only [State.reqSound, hconn _ hne]
        exact hold
      · have hne : j ≠ i := by
          rintro rfl
          simp [(h.recovery hr).2.2.1] at hst
        simp only [State.reqSound, hconn _ hne]
        exact hold
      · have hne : j ≠ i := by
          rintro rfl
          simp [(h.check hr).2.2.1, (h.check hr).2.2.2] at hst
        simp only [State.reqSound, hconn _ hne]
        exact hold
      · exact hold

/-- A RELEASE puts a FAULTED connection up for a release check, and gives a DARK_LOCKED one its attempts back (R34, R35). -/
theorem State.Sound.release (h : s.Sound) (hm : s.mode ≠ .inventory) (i : Nat) : (s.release i).2.Sound := by
  unfold State.release
  cases hst : (s.conn i).st with
  | faulted =>
    cases hpending : (s.conn i).releasePending with
    | true => exact h
    | false =>
      refine State.Sound.arbitrate (h.modConn_unasked hm (.inl ⟨hst, hpending⟩) ?_)
      obtain ⟨hconf, hnote, hattempts, ⟨hnone, -⟩ | ⟨k, -, hrelease, -⟩⟩ := (Conn.sound_faulted hst).mp (h.record i)
      · have hset : Conn.joinSet .check 0 { s.conn i with releasePending := true }
            = { s.conn i with releasePending := true, member := some ⟨.check, 0⟩ } := by simp [Conn.joinSet, hnone]
        rw [hset]
        exact ⟨by simp [Conn.sound, hst, hconf, hnote, hattempts], by simp [hst]⟩
      · simp [hpending] at hrelease
  | darkLocked =>
    refine State.Sound.arbitrate (h.modConn_unasked hm (.inr hst) ?_)
    obtain ⟨hconf, hcur, hnote, hrelease, hattempts, hnone⟩ := (Conn.sound_darkLocked hst).mp (h.record i)
    have hset : Conn.joinSet .recover 0 { s.conn i with st := .dark, attempts := 0 }
        = { s.conn i with st := .dark, attempts := 0, member := some ⟨.recover, 0⟩ } := by simp [Conn.joinSet, hnone]
    rw [hset]
    exact ⟨by simp [Conn.sound, hconf, hcur, hnote, hrelease], by simp⟩
  | steady | moving | resting | dark | unconfigured => exact h

/-- Outside the working modes no request is in flight (R59). -/
theorem State.Sound.no_req (h : s.Sound) (hm : s.mode = .loading ∨ s.mode = .configFault ∨ s.mode = .blackout) : s.engine.req = none := by
  cases hr : s.engine.req with
  | none => rfl
  | some r =>
    rcases r with m | ⟨j, st, k⟩ | ⟨j, k⟩ | ⟨j, k⟩
    · have := (h.move hr).2.1
      simp [this] at hm
    · rcases (h.recovery hr).1 with ha | ha <;> simp [ha] at hm
    · rcases (h.check hr).1 with ha | ha <;> simp [ha] at hm
    · have := (h.inventoryQuery hr).1
      simp [this] at hm

theorem State.Sound.enterConfigFault (h : s.Sound) (hm : s.mode = .loading) : s.enterConfigFault.Sound := by
  have hr := h.no_req (.inl hm)
  have hworking : s.enterConfigFault.mode.working = s.mode.working := by
    rw [hm]
    rfl
  exact State.SoundBut.free (i := 0) ((h.soundBut (by simp [hr]) 0).of_frame rfl hworking rfl) (h.idle (by simp [hr]) 0) hr
    fun hinv => nomatch hinv

theorem State.Sound.listenAgain (h : s.Sound) (hm : s.mode = .blackout ∨ s.mode = .listenOnly) (n : Option Nat) :
    (s.enterMode .listenOnly n).Sound :=
  h.enterMode n (by rcases hm with hm | hm <;> simp [hm, Mode.working]) (.inr rfl) (by rcases hm with hm | hm <;> simp [hm])
    (h.no_move (by rcases hm with hm | hm <;> simp [hm]))

theorem State.Sound.enterBlackout (h : s.Sound) (hm : s.mode = .active ∨ s.mode = .listenOnly) : s.enterBlackout.Sound :=
  h.abandonRequest rfl rfl (by rcases hm with hm | hm <;> simp [hm, Mode.working]) rfl rfl

theorem sound_keptByTable : KeptByTable State.Sound where
  ignored h hst hcfg _ hc he _ _ _ _ := h.of_frame hcfg (by rw [State.mode, hst]; rfl) hc (by rw [he]) (by rw [he])
  filterPrec _ h := h.of_frame rfl rfl rfl rfl rfl
  releasePlanner {s} h := by
    have hrechecked : (s.modPlanner fun p => { p with listenT := none }).recheck.Sound :=
      h.of_frame (by simp) (by simp [State.mode]) (by simp) (by simp) (by simp)
    exact of_ite_of_imp (fun _ => State.Sound.arbitrate (hrechecked.of_frame rfl rfl rfl rfl rfl)) fun _ => hrechecked
  onPeerIntent h := h.of_frame (by simp) (by simp [State.mode]) (by simp) (by simp) (by simp)
  onSetback _ h := h.of_frame (by simp) (by simp [State.mode]) (by simp) (by simp) (by simp)
  withdraw h _ := h.of_frame (by simp) (by simp [State.mode]) (by simp) (by simp) (by simp)
  endAssembly h := h.of_frame (by simp) (by simp [State.mode]) (by simp) (by simp) (by simp)

theorem State.Sound.ageEnd (h : s.Sound) : s.ageEnd.Sound :=
  of_ite_of_imp (fun _ => State.Sound.endSettling (h.of_frame (by simp) (by simp [State.mode]) (by simp) (by simp) (by simp))) fun _ => h

/-- After a power-on reset no record is configured and no request in flight (R17, R59, R164). -/
theorem powerOn_sound (s : State) : s.powerOn.Sound := by
  have hconn (j : Nat) : s.powerOn.conn j = Conn.unconfigured := by
    change (List.replicate 32 Conn.unconfigured).getD j Conn.unconfigured = Conn.unconfigured
    rw [List.getD_eq_getElem?_getD, List.getElem?_replicate]
    split <;> rfl
  refine ⟨⟨rfl, fun c hc => nomatch hc⟩, rfl, fun j => ?_, fun j hj => ?_, rfl, fun hinv => nomatch hinv⟩
  · rw [hconn]
    rfl
  · rw [hconn] at hj
    cases hj

theorem sound_keptByRows : KeptByRows State.Sound where
  toKeptByTable := sound_keptByTable
  powerOn {s} _ := powerOn_sound s
  setLoader _ _ h := h.of_frame rfl rfl rfl rfl rfl
  enterConfigFault h hm := h.enterConfigFault hm
  endLoading im h hm := h.endLoading hm im
  beginInventory h hm := h.beginInventory (by simp [hm, Mode.working]) rfl rfl
  restartEvent h hw := h.beginInventory hw rfl rfl
  cyclesPass n h := h.cyclesPass n
  second h := (sound_keptByTable.tableSecond h.countSecond).ageEnd
  appendSelected x h := h.of_frame (by simp) (by simp [State.mode]) (by simp) (by simp) (by simp)
  filterRescue _ h := h.of_frame rfl rfl rfl rfl rfl
  enterBlackout h hm := h.enterBlackout hm
  listenAgain n h hm := h.listenAgain hm n
  enterActive {s} h hm := by
    have hactive := h.enterMode (mode := .active) none (by simp [hm, Mode.working]) (.inl rfl) (by simp [hm]) (h.no_move (by simp [hm]))
    exact State.Sound.arbitrate (hactive.of_frame (by simp) (by simp [State.mode, State.modStation]) (by simp) (by simp) (by simp))
  setReading _ h := h.of_frame rfl rfl rfl rfl rfl
  recordTaken _ _ h := h.of_frame (by simp) (by simp [State.mode]) (by simp) (by simp) (by simp)
  evalOnTrigger h := h.of_frame (by simp) (by simp [State.mode]) (by simp) (by simp) (by simp)
  ageEnd h := h.ageEnd
  samplingEnd h := h.of_frame rfl rfl rfl rfl rfl
  monitoringEnd h := h.of_frame rfl rfl rfl rfl rfl
  throttleEnd h := h.of_frame rfl rfl rfl rfl rfl
  lcdRise h := h.of_frame (by simp) (by simp [State.mode]) (by simp) (by simp) (by simp)
  lcdFall h := h.of_frame (by simp) (by simp [State.mode]) (by simp) (by simp) (by simp)
  gapComplete h := h.of_frame (by simp) (by simp [State.mode]) (by simp) (by simp) (by simp)
  startTransmission h _ := h.of_frame (by simp) (by simp [State.mode]) (by simp) (by simp) (by simp)
  transmissionComplete h := h.of_frame (by simp) (by simp [State.mode]) (by simp) (by simp) (by simp)
  holdRemainingEnd h := h.of_frame (by simp) (by simp [State.mode]) (by simp) (by simp) (by simp)
  evaluationExpiry h := h.of_frame (by simp) (by simp [State.mode]) (by simp) (by simp) (by simp)
  reportExpiry h := h.of_frame (by simp) (by simp [State.mode]) (by simp) (by simp) (by simp)
  announceExpiry h := h.of_frame (by simp) (by simp [State.mode]) (by simp) (by simp) (by simp)
  listenExpiry h :=
    of_ite_of_imp (fun _ => of_ite_of_imp (fun _ => sound_keptByTable.releasePlanner h) fun _ => h.of_frame rfl rfl rfl rfl rfl) fun _ => h
  overrides _ _ h := h.of_frame rfl rfl rfl rfl rfl
  send h _ := h.of_frame rfl rfl rfl rfl rfl
  rescueEmptied h := h.rescueEmptied
  issueHold _ h _ _ := h.of_frame (by simp) (by simp [State.mode]) (by simp) (by simp) (by simp)
  dwellEnd h i := h.dwellEnd i
  arbitrate h := h.arbitrate
  endSettling h := h.endSettling
  engineLoss h x := h.engineLoss x
  release h i _ hm := h.release hm i
  ready h _ path good := h.ready path good
  notReady h _ good := h.notReady good
  opened h _ good := h.opened good
  nak h _ good := h.nak good
  closed h _ x good := h.closed x good
  queryAnswer h _ path good := h.queryAnswer path good
  armTimeout h := h.armTimeout
  breakTimeout h := h.breakTimeout
  closedTimeout h := h.closedTimeout
  queryTimeout h := h.queryTimeout
  gapLimit h := h.gapLimit
  fallbackWaitLimit h := h.fallbackWaitLimit
  recoveryWaitLimit h := h.recoveryWaitLimit

end Sys2Proof.Machine

namespace Sys2Proof.Proofs

open Sys2Proof.Machine

/-- Settles O57: soundness is a case of the traversal by rows, and a crossing keeps it too. -/
theorem stepKeepsRecordsSound : Obligations.StepKeepsRecordsSound := by
  intro s t h ht
  refine sound_keptByRows.of_step (fun p e hs => ?_) h ht
  rw [crossing_eq]
  exact (sound_keptByRows.crossingCounted hs p e).engineCrossing p

end Sys2Proof.Proofs


/-! The block as a whole, power-on and loading (chapter 10): a cycle value by value, a part held by PORN, the entry to INVENTORY value
by value, and the clamps of an image field by field. -/

namespace Sys2Proof.Machine

variable {s t : State}

/-- While PORN is low an event has no effect. -/
theorem powered_of_low (f : State → State) (hp : s.pins.pornLow = true) : powered f s = s := by simp [powered, hp]

theorem getD_replicate {α : Type} (n : Nat) (a : α) (i : Nat) : (List.replicate n a).getD i a = a := by
  rw [List.getD_eq_getElem?_getD, List.getElem?_replicate]
  split <;> rfl

/-! ### One cycle (R58, R104, R105) -/

/-- One cycle, value by value. -/
theorem cyclesPass_one (s : State) : s.cyclesPass 1 = s.cycled := by
  rcases hacc : s.line.access with _ | (_ | _ | k) | n | ⟨n, _ | _ | k⟩ | _ <;>
    simp only [State.cyclesPass, State.accessCycles, State.accessCycle, State.cycled, hacc]
  case gap.some.zero => rfl
  case gap.some.succ =>
    have hg : gapCycles ≤ k + 1 + 1 := Nat.le_add_left 2 k
    rw [if_pos hg]
    simp only [State.gapComplete, hacc]
    cases hh : s.line.head with
    | none => rfl
    | some h => cases h <;> rfl
  case frozen.some.zero => rfl
  case frozen.some.succ =>
    have hg : gapCycles ≤ k + 1 + 1 := Nat.le_add_left 2 k
    rw [if_pos hg]
    simp only [State.gapComplete, hacc]
    rfl
  case defer => rfl

end Sys2Proof.Machine

namespace Sys2Proof.Proofs

open Sys2Proof.Machine

/-- Settles O1: an idle step is a cycle exactly while no cycle events come. -/
theorem stepRunsFrontCommand : Obligations.StepRunsFrontCommand := by
  refine ⟨fun c rest s hs => by simp [step, hs], fun s hs => ?_⟩
  have hidle : step s = .next s.idle := by simp [step, hs]
  rw [hidle, State.idle]
  rcases Bool.eq_false_or_eq_true s.pins.pornLow with hp | hp
  · rw [powered_of_low _ hp, if_pos (.inl hp)]
  · have hcycles : s.noCycles = false ↔ s.time.aligned = true ∧ s.time.ref ≠ none := by
      simp [State.noCycles, Option.isSome_iff_ne_none]
    rw [powered_of_high _ hp]
    by_cases hc : s.noCycles = true
    · rw [if_pos hc, cyclesPass_one, if_neg]
      rintro (hlow | hrun)
      · simp [hp] at hlow
      · simp [hcycles.mpr hrun] at hc
    · rw [if_neg hc, if_pos (.inr (hcycles.mp (by simpa using hc)))]

/-- Settles O55: each invariant holds right after a power-on reset. -/
theorem resetStateIsSound : Obligations.ResetStateIsSound :=
  ⟨fun _ => ⟨rfl, rfl, rfl, rfl⟩, powerOn_sound State.reset, powerOn_tableSound State.reset, powerOn_phasesSound State.reset,
    monitoringHeld_of_open rfl, endsTaken_iff.mpr (powerOn_endsTakenBelow State.reset)⟩

/-- Settles O2: while PORN is low every arm but PORN's own keeps all but the pins, and a reset's values are those of each block. -/
theorem powerOnResetAndPornLow : Obligations.PowerOnResetAndPornLow := by
  refine ⟨fun c s hp hreset hrise => ?_, fun s => ?_⟩
  · have hsame : ∃ q : Pins, q.pornLow = true ∧ (Host.Outcome.next s : Host.Outcome State Fault Refusal) = .next { s with pins := q } :=
      ⟨s.pins, hp, rfl⟩
    have hkept (f : State → State) : ∃ q : Pins, q.pornLow = true
        ∧ (Host.Outcome.next (powered f s) : Host.Outcome State Fault Refusal) = .next { s with pins := q } := by
      rwa [powered_of_low f hp]
    cases c
    case powerOnReset => exact absurd rfl hreset
    case pornRise => exact absurd rfl hrise
    case crossing p e =>
      exact ⟨{ s.pins with zc := s.pins.zc.set p (e == .positive) }, hp, congrArg _ (if_pos hp)⟩
    case lcdActive => exact ⟨{ s.pins with lcd := true }, hp, congrArg _ (if_pos hp)⟩
    case lcdInactive => exact ⟨{ s.pins with lcd := false }, hp, congrArg _ (if_pos hp)⟩
    case resetnFall =>
      have hfall : s.resetnFall = if s.pins.resetnLow then s else s.setResetn true := by simp [State.resetnFall, hp]
      change ∃ q : Pins, q.pornLow = true ∧ Host.Outcome.next s.resetnFall = .next { s with pins := q }
      rw [hfall]
      split
      · exact hsame
      · exact ⟨{ s.pins with resetnLow := true }, hp, rfl⟩
    case resetnRise =>
      have hrise : s.resetnRise = if s.pins.resetnLow then s.setResetn false else s := by simp [State.resetnRise, hp]
      change ∃ q : Pins, q.pornLow = true ∧ Host.Outcome.next s.resetnRise = .next { s with pins := q }
      rw [hrise]
      split
      · exact ⟨{ s.pins with resetnLow := false }, hp, rfl⟩
      · exact hsame
    all_goals exact hkept _
  · refine ⟨_, rfl, rfl, rfl, rfl, fun i => ?_, rfl, rfl, fun p => ?_, rfl, rfl, rfl, rfl, rfl, rfl, fun i => ?_, rfl, rfl, rfl,
      fun k => ?_, rfl, fun k => ?_, rfl, rfl, rfl, rfl, rfl⟩
    · exact getD_replicate 32 none i
    · cases p <;> rfl
    · exact getD_replicate 32 _ i
    · exact getD_replicate 16 none k
    · exact getD_replicate 4 false k

end Sys2Proof.Proofs


/-! Loading and restart (chapter 10): how INVENTORY begins, what the clamps leave of an image, and which commands reach the settings. -/

namespace Sys2Proof.Machine

variable {s t : State}

/-! ### How INVENTORY begins (R32, R75, R175) -/

theorem inventoryRecords_eq (s : State) :
    (s.conns.mapIdx fun i c => if s.configured i then Conn.uninventoried else c) = inventoryRecords s.conf.count s.conns := by
  simp only [inventoryRecords, State.configured, decide_eq_true_eq]
  rfl

/-- In INVENTORY a FREE engine asks the next connection and looks no further. -/
theorem arbitrate_inventory (hm : s.mode = .inventory) (hr : s.engine.req = none) : s.arbitrate = s.takeInventory := by
  rw [State.arbitrate, State.arbiter, hr, hm]
  rfl

/-- INVENTORY as it begins: with RESETN high the first query goes out (R175). -/
theorem beginInventory_eq (s : State) :
    s.beginInventory =
      let t : State :=
        { s with
          station := { s.station with mode := .inventory, listenOnly := none }
          conns := inventoryRecords s.conf.count s.conns }
      if s.pins.resetnLow then { t with engine := { s.engine with req := none, invNext := 0 } } else t.inventoryBegun := by
  rw [State.beginInventory, inventoryRecords_eq, arbitrate_inventory rfl rfl, State.takeInventory]
  cases hreset : s.pins.resetnLow with
  | true =>
    rw [if_neg (fun h => by simp [State.modEngine, State.enterMode, State.modStation, hreset] at h)]
    rfl
  | false =>
    by_cases hcount : 0 < s.conf.count
    · have hconfigured : s.configured 0 = true := by simpa [State.configured] using hcount
      rw [if_pos ⟨hreset, hconfigured⟩]
      simp only [State.inventoryBegun]
      rw [if_neg (by simp), if_pos (by exact hcount)]
      rfl
    · have hconfigured : ¬s.configured 0 = true := by simpa [State.configured] using hcount
      rw [if_neg (fun h => hconfigured h.2)]
      simp only [State.inventoryBegun]
      rw [if_neg (by simp), if_neg (by exact hcount)]
      rfl

/-! ### The clamps, field by field (R19, R21, R22, R150, R167) -/

theorem clampNat_range {lo hi : Nat} (h : lo ≤ hi) (x : Nat) : lo ≤ (clampNat lo hi x).val ∧ (clampNat lo hi x).val ≤ hi := by
  simp only [clampNat]
  omega

theorem clampNat_unchanged {lo hi x : Nat} (h : (clampNat lo hi x).changed = false) : (clampNat lo hi x).val = x := by
  simp only [clampNat, Bool.or_eq_false_iff, decide_eq_false_iff_not] at h ⊢
  omega

theorem clampInt_range {lo hi : Int} (h : lo ≤ hi) (x : Int) : lo ≤ (clampInt lo hi x).val ∧ (clampInt lo hi x).val ≤ hi := by
  simp only [clampInt]
  omega

theorem clampInt_unchanged {lo hi x : Int} (h : (clampInt lo hi x).changed = false) : (clampInt lo hi x).val = x := by
  simp only [clampInt, Bool.or_eq_false_iff, decide_eq_false_iff_not] at h ⊢
  omega

theorem clampMains_range (x : Nat) : (clampMains x).val = 50 ∨ (clampMains x).val = 60 := by
  unfold clampMains
  split
  next h => exact h
  next => exact .inl rfl

theorem clampMains_unchanged {x : Nat} (h : (clampMains x).changed = false) : (clampMains x).val = x := by
  unfold clampMains at h ⊢
  split
  next => rfl
  next hx => simp [hx] at h

theorem clampLifetime_range {listen : Nat} (h : listen ≤ 10) (x : Nat) :
    listen + 3 ≤ (clampLifetime listen x).val ∧ 5 ≤ (clampLifetime listen x).val ∧ (clampLifetime listen x).val ≤ 60 := by
  have hrange := clampNat_range (lo := 5) (hi := 60) (by decide) x
  simp only [clampLifetime]
  omega

theorem clampLifetime_unchanged {listen x : Nat} (h : (clampLifetime listen x).changed = false) : (clampLifetime listen x).val = x := by
  simp only [clampLifetime, Bool.or_eq_false_iff, decide_eq_false_iff_not] at h ⊢
  have hsame := clampNat_unchanged h.1
  omega

theorem clampBounds_unchanged {count b0 b1 b2 b3 : Nat} (h : (clampBounds count b0 b1 b2 b3).changed = false) :
    (clampBounds count b0 b1 b2 b3).val = [b0, b1, b2, b3] := by
  simp only [clampBounds, Bool.not_eq_false', Bool.and_eq_true, decide_eq_true_eq] at h ⊢
  obtain ⟨⟨⟨h0, h1⟩, h2⟩, h3⟩ := h
  rw [h2, h1, h0, h3]

theorem Source.range_le (x : Source) : x.range.1 ≤ x.range.2 := by
  cases x <;> simp [Source.range]

theorem clampComp_range (im : List Byte) (k : Nat) :
    (clampComp im k).val.source.range.1 ≤ (clampComp im k).val.value ∧ (clampComp im k).val.value ≤ (clampComp im k).val.source.range.2 := by
  simp only [clampComp]
  split
  next src _ _ _ _ _ => exact clampInt_range src.range_le _
  next => simp [Source.range]

theorem clampComp_unchanged {im : List Byte} {k : Nat} (h : (clampComp im k).changed = false) :
    (clampComp im k).val.enable = (imgByte im k).getLsbD 7 ∧ codeAction (imgByte im k &&& 3) = some (clampComp im k).val.action
      ∧ codeSource (imgByte im (k + 1)) = some (clampComp im k).val.source ∧ codeCond (imgByte im (k + 2)) = some (clampComp im k).val.cond
      ∧ (clampComp im k).val.value = img32 im (k + 3) := by
  simp only [clampComp] at h ⊢
  split
  next src cond act hsrc hcond hact =>
    rw [hsrc, hcond, hact] at h
    exact ⟨rfl, hact, hsrc, hcond, clampInt_unchanged h⟩
  next hnone =>
    split at h
    next hsrc hcond hact => exact absurd hact (hnone _ _ _ hsrc hcond)
    next => cases h

/-- A home phase code other than 0 names the phase whose code it is. -/
theorem phaseCode_of_codePhase {b : Byte} {p : Phase} (h : codePhase b = some p) : phaseCode p = b := by
  unfold codePhase at h
  split at h
  next hb => cases h; exact hb.symm
  next =>
    split at h
    next hb => cases h; exact hb.symm
    next =>
      split at h
      next hb => cases h; exact hb.symm
      next => cases h

/-- A connection's byte that needs no correction is taken as it is (R19, R167). -/
theorem clampConn_unchanged {b : Byte} (h : (clampConn b).changed = false) :
    (clampConn b).val.allowed = ⟨b.getLsbD 0, b.getLsbD 1, b.getLsbD 2⟩ ∧ phaseCode (clampConn b).val.home = (b >>> 3) &&& 3
      ∧ attrCode (clampConn b).val.attr = (b >>> 5) &&& 3 := by
  simp only [clampConn] at h ⊢
  split
  next hallowed =>
    rw [if_pos hallowed] at h
    simp only [Bool.or_eq_false_iff, Option.isNone_eq_false_iff, attrUnnamed, beq_eq_false_iff_ne] at h
    obtain ⟨hhome, hattr⟩ := h
    obtain ⟨p, hp⟩ := Option.isSome_iff_exists.mp hhome
    refine ⟨rfl, ?_, ?_⟩
    · rw [hp]
      exact phaseCode_of_codePhase hp
    · generalize hcode : (b >>> 5) &&& 3 = code at hattr ⊢
      have hsmall : code.toNat < 4 := by
        rw [← hcode, BitVec.toNat_and]
        exact Nat.lt_of_le_of_lt Nat.and_le_right (by decide)
      have hnamed : code = 0 ∨ code = 1 ∨ code = 2 := by
        have hne : code.toNat ≠ 3 := fun he => hattr (BitVec.eq_of_toNat_eq he)
        have hcases : code.toNat = 0 ∨ code.toNat = 1 ∨ code.toNat = 2 := by omega
        exact hcases.imp BitVec.eq_of_toNat_eq (Or.imp BitVec.eq_of_toNat_eq BitVec.eq_of_toNat_eq)
      rcases hnamed with rfl | rfl | rfl <;> rfl
  next hallowed =>
    rw [if_neg hallowed] at h
    cases h

/-! ### Loading (R165 to R168) -/

theorem loaderReading_of (hm : s.mode = .loading) (hl : s.station.loader = .reading) : s.loaderReading = true := by
  simp [State.loaderReading, hm, hl]

theorem imageOk_iff (im : List Byte) :
    imageOk im = true ↔ im.length = 256 ∧ im.drop 254 = wordBytes (crc16 (im.take 254)) ∧ img8 im 0 = 1 ∧ 1 ≤ img8 im 1
      ∧ img8 im 1 ≤ 250 := by
  simp [imageOk, and_assoc]

end Sys2Proof.Machine

namespace Sys2Proof.Proofs

open Sys2Proof.Machine

/-- Settles O3: the loader's rows, and the entry to INVENTORY with the clamped image. -/
theorem loadingTakesTheImage : Obligations.LoadingTakesTheImage := by
  refine ⟨⟨fun s hp => ?_, fun c s hc hp hm hl => ?_, fun s hp hm hl => ?_⟩, fun image s hp hm hl => ?_⟩
  · change Host.Outcome.next s.pornRise = _
    rw [State.pornRise, if_pos hp]
    rfl
  · have hfailed : exec c s = .next s.attemptReadFailed := by
      rw [← powered_of_high State.attemptReadFailed hp]
      rcases hc with rfl | rfl <;> rfl
    rw [hfailed, State.attemptReadFailed, if_pos (loaderReading_of hm hl)]
    congr 1
    by_cases hlast : s.station.failures < 3
    · rw [if_pos (show s.station.failures + 1 < maxFailures from Nat.succ_lt_succ hlast), if_pos hlast]
      rfl
    · rw [if_neg (show ¬s.station.failures + 1 < maxFailures from fun h => hlast (Nat.lt_of_succ_lt_succ h)), if_neg hlast]
      rfl
  · change Host.Outcome.next (powered State.readRetry s) = _
    rw [powered_of_high _ hp, State.readRetry, if_pos (by simp [hm, hl])]
    rfl
  · change Host.Outcome.next (powered (State.imageReadIn image) s) = _
    rw [powered_of_high _ hp, State.imageReadIn, if_pos (loaderReading_of hm hl)]
    congr 1
    by_cases hok : imageOk image = true
    · rw [if_pos hok, if_pos ((imageOk_iff image).mp hok), State.endLoading, beginInventory_eq]
      obtain ⟨v, changed⟩ := clampImage image
      cases changed <;> rfl
    · rw [if_neg hok, if_neg (fun h => hok ((imageOk_iff image).mpr h))]
      rfl

/-- Settles O4: each clamp brings its field into its range, and leaves a field that is in it. -/
theorem loadedSettingsInRange : Obligations.LoadedSettingsInRange := by
  intro im
  refine ⟨clampImage_clamped im, clampMains_range _, by simp [clampImage], fun r hr => ?_, ?_⟩
  · simp only [clampImage, List.map_map, List.mem_map] at hr
    obtain ⟨k, -, rfl⟩ := hr
    exact clampNat_range (by decide) _
  · have hlisten := clampNat_range (lo := 2) (hi := 10) (by decide) (img8 im 59)
    have hlifetime := clampLifetime_range hlisten.2 (img8 im 60)
    have hin {lo hi : Nat} (h : lo ≤ hi) (x : Nat) := clampNat_range h x
    refine ⟨(hin (by decide) _).1, (hin (by decide) _).2, (hin (by decide) _).1, (hin (by decide) _).2, (hin (by decide) _).2,
      (hin (by decide) _).1, (hin (by decide) _).2, (hin (by decide) _).1, (hin (by decide) _).2, (hin (by decide) _).1,
      (hin (by decide) _).2, hlisten.1, hlisten.2, hlifetime.1, hlifetime.2.1, hlifetime.2.2, (hin (by decide) _).1,
      (hin (by decide) _).2, (hin (by decide) _).1, (hin (by decide) _).2, (hin (by decide) _).1, (hin (by decide) _).2,
      (hin (by decide) _).2, (hin (by decide) _).1, (hin (by decide) _).2, (hin (by decide) _).2, (hin (by decide) _).1,
      (hin (by decide) _).2, (hin (by decide) _).1, (hin (by decide) _).2, by simp [clampImage], fun d hd => ?_, fun h => ?_⟩
    · simp only [clampImage, List.map_map, List.mem_map] at hd
      obtain ⟨k, -, rfl⟩ := hd
      exact clampComp_range im _
    · simp only [clampImage, Bool.or_eq_false_iff, List.any_eq_false, List.any_map, List.mem_range, Function.comp_apply,
        Bool.not_eq_true, and_assoc] at h
      obtain ⟨hmains, hcount, hbounds, hratings, hconns, -, hpMax, hfloor, hmin, heval, hdwell, hannounce, hlisten', hlife, hreport, hsamp,
        hthreshold, hthrottle, hmon, hmonMax, hloss, hhold, -, hcomps⟩ := h
      have hcountEq := clampNat_unchanged hcount
      refine ⟨rfl, rfl, rfl, clampMains_unchanged hmains, hcountEq, ?_, clampNat_unchanged hpMax, clampNat_unchanged hfloor,
        clampNat_unchanged hmin, clampNat_unchanged heval, clampNat_unchanged hdwell, clampNat_unchanged hannounce,
        clampNat_unchanged hlisten', clampLifetime_unchanged hlife, clampNat_unchanged hreport, clampNat_unchanged hsamp,
        clampNat_unchanged hthreshold, clampNat_unchanged hthrottle, clampNat_unchanged hmon, clampNat_unchanged hmonMax,
        clampNat_unchanged hloss, clampNat_unchanged hhold, ?_, rfl, rfl, fun i hi => ?_, fun k hk => ?_⟩
      · exact clampBounds_unchanged hbounds
      · have hsame (k : Nat) (hk : k < 4) := clampNat_unchanged (hratings k hk)
        simp only [clampImage, List.map_map]
        simpa [List.range_succ] using ⟨hsame 0 (by decide), hsame 1 (by decide), hsame 2 (by decide), hsame 3 (by decide)⟩
      · have hlt : i < (clampNat 1 32 (img8 im 5)).val := hi
        obtain ⟨hallowed, hhome, hattr⟩ := clampConn_unchanged (hconns i hlt)
        exact ⟨_, by simp [clampImage, hlt], hallowed, hhome, hattr⟩
      · obtain ⟨henable, haction, hsource, hcond, hvalue⟩ := clampComp_unchanged (hcomps k hk)
        refine ⟨_, by simp only [clampImage, List.map_map, List.getElem?_map, List.getElem?_range hk, Option.map_some, Function.comp_apply],
          henable, haction, ?_, ?_, ?_⟩
        · rw [← hsource, show 76 + 8 * k + 1 = 77 + 8 * k by omega]
        · rw [← hcond, show 76 + 8 * k + 2 = 78 + 8 * k by omega]
        · rw [hvalue, show 76 + 8 * k + 3 = 79 + 8 * k by omega]

/-- Settles O5: every restart is the beginning of INVENTORY on the restart values. -/
theorem restartsByPinAndByRequest : Obligations.RestartsByPinAndByRequest := by
  refine ⟨⟨fun s hp hlow => ?_, fun s hp hlow => ?_⟩, fun s hp hw => ⟨fun hrx => ?_, fun hrx hpending hlow => ?_, fun hrx hpending => ?_⟩⟩
  · change Host.Outcome.next s.resetnFall = _
    rw [State.resetnFall, if_neg (by simp [hlow])]
    congr 1
    cases hw : s.mode.working with
    | true =>
      have hnot : ¬(s.mode = .loading ∨ s.mode = .configFault) := by
        rintro (hm | hm) <;> simp [hm, Mode.working] at hw
      rw [if_pos (by simp [hp]), if_neg hnot, State.restartEvent, beginInventory_eq]
      rfl
    | false =>
      rw [if_neg (by simp), if_pos (by cases hm : s.mode <;> simp_all [Mode.working])]
      rfl
  · change Host.Outcome.next s.resetnRise = _
    rw [State.resetnRise, if_pos hlow]
    congr 1
    by_cases hm : s.mode = .inventory
    · rw [if_pos (by simp [hm, hp]), if_pos hm, beginInventory_eq]
      have hstation : ({ s.station with mode := .inventory, listenOnly := none } : Station) = { s.station with listenOnly := none } := by
        rw [← hm]
        rfl
      simp only [State.setResetn, Bool.false_eq_true, if_false, hstation]
      rfl
    · rw [if_neg (by simp [hm]), if_neg hm]
      rfl
  · change Host.Outcome.next (powered (State.takeRequest 10 [] decideRestart) s) = _
    rw [powered_of_high _ hp, takeRequest_eq_respond 10 decideRestart (by decide) hrx, decideRestart, unlocked_of_working _ hw]
    rfl
  · change Host.Outcome.next (powered State.responseEnd s) = _
    rw [powered_of_high _ hp, State.responseEnd, hrx]
    simp only [hpending, hw, Bool.and_self, if_true]
    rw [State.restartEvent, beginInventory_eq]
    simp only [hlow, Bool.false_eq_true, if_false]
    rfl
  · change Host.Outcome.next (powered State.responseEnd s) = _
    rw [powered_of_high _ hp, State.responseEnd, hrx]
    have hnone : (s.svc.restartPending && s.mode.working) = false := by simp [hpending]
    simp only [hnone, Bool.false_eq_true, if_false]
    rfl

end Sys2Proof.Proofs


/-! What reaches the settings (R20, R163, R174): nothing while the station runs; an image only at the end of LOADING, and an override
entry only by an OVERRIDE decided while the overrides are open. -/

namespace Sys2Proof.Machine

variable {s t s₀ : State}

/-- The loaded configuration and the override table are those of `s₀`. -/
def State.SettingsOf (s₀ s : State) : Prop := s.cfg = s₀.cfg ∧ s.station.overrides = s₀.station.overrides

theorem State.SettingsOf.of_station (h : s₀.SettingsOf s) (hc : t.cfg = s.cfg) (hst : t.station.overrides = s.station.overrides) :
    s₀.SettingsOf t := ⟨hc.trans h.1, hst.trans h.2⟩

theorem settingsOf_keptByTable (s₀ : State) : KeptByTable s₀.SettingsOf where
  ignored h hst hc _ _ _ _ _ _ _ := h.of_station hc (by rw [hst])
  filterPrec _ h := h
  releasePlanner h := h.of_station (by simp) (by simp)
  onPeerIntent h := h.of_station (by simp) (by simp)
  onSetback _ h := h.of_station (by simp) (by simp)
  withdraw h _ := h.of_station (by simp) (by simp)
  endAssembly h := h.of_station (by simp) (by simp)

theorem State.SettingsOf.beginInventory (h : s₀.SettingsOf s) : s₀.SettingsOf s.beginInventory :=
  h.of_station (by simp) (by simp [State.beginInventory, State.enterMode, State.modStation])

theorem State.SettingsOf.inventoryAnswer (h : s₀.SettingsOf s) (i : Nat) (a : Option (Option Phase)) :
    s₀.SettingsOf (s.inventoryAnswer i a) := by
  refine h.of_station (by simp) ?_
  simp only [State.inventoryAnswer, State.finishInventoryQuery, State.enterListenOnly]
  split <;> simp [State.enterMode, State.modStation, State.modEngine]

theorem State.SettingsOf.queryAnswer (h : s₀.SettingsOf s) (i : Nat) (path : Option Phase) (good : Bool) :
    s₀.SettingsOf (s.queryAnswer i path good) := by
  unfold State.queryAnswer State.queryTaken
  split
  next r _ =>
    split
    next m =>
      split
      · split
        · exact h.of_station (by simp) (by simp)
        · exact h.of_station (by simp) (by simp)
      all_goals exact h
    · split
      · exact h.of_station (by simp) (by simp)
      · exact h.of_station (by simp) (by simp)
    · exact h.of_station (by simp) (by simp)
    · exact h.inventoryAnswer _ _
    all_goals exact h
  next => exact h

theorem State.SettingsOf.queryTimeout (h : s₀.SettingsOf s) : s₀.SettingsOf s.queryTimeout := by
  have hexpired {r : Req} {t : State} (he : s.expired = some (r, t)) : s₀.SettingsOf t := by
    obtain ⟨q, -, -, -, rfl⟩ := s.expired_some r t he
    exact h.of_station (by simp) (by simp)
  unfold State.queryTimeout
  split
  next he => exact of_ite_of_imp (fun _ => (hexpired he).of_station (by simp) (by simp)) fun _ => h
  next he => exact (hexpired he).of_station (by simp) (by simp)
  next he => exact (hexpired he).of_station (by simp) (by simp)
  next he => exact (hexpired he).inventoryAnswer _ _
  all_goals exact h

theorem settingsOf_keptWhileRunning (s₀ : State) : KeptWhileRunning s₀.SettingsOf where
  toKeptByTable := settingsOf_keptByTable s₀
  setLoader _ _ h := h
  enterConfigFault h _ := h
  beginInventory h _ := h.beginInventory
  restartEvent h _ := State.SettingsOf.beginInventory (show s₀.SettingsOf _ from h)
  cyclesPass n h := h.of_station (by simp) (by simp)
  second h := h.of_station (by simp) (by simp [State.second, State.countSecond])
  appendSelected x h := h.of_station (by simp) (by simp)
  filterRescue _ h := h
  enterBlackout h _ := h.of_station (by simp) (by simp [State.enterBlackout, State.enterMode, State.modStation])
  listenAgain _ h _ := h
  enterActive h _ := h.of_station (by simp) (by simp [State.enterActive, State.enterMode, State.modStation])
  setReading _ h := h
  recordTaken w rs h := h.of_station (by simp) (by simp)
  evalOnTrigger h := h.of_station (by simp) (by simp)
  ageEnd h := h.of_station (by simp) (by simp)
  samplingEnd h := h
  monitoringEnd h := h
  throttleEnd h := h
  lcdRise h := h.of_station (by simp) (by simp)
  lcdFall h := h.of_station (by simp) (by simp)
  gapComplete h := h.of_station (by simp) (by simp)
  startTransmission h _ := h.of_station (by simp) (by simp)
  transmissionComplete h := h.of_station (by simp) (by simp)
  holdRemainingEnd h := h.of_station (by simp) (by simp)
  evaluationExpiry h := h.of_station (by simp) (by simp)
  reportExpiry h := h.of_station (by simp) (by simp)
  announceExpiry h := h.of_station (by simp) (by simp)
  listenExpiry h := h.of_station (by simp) (by simp)
  send h _ := h
  rescueEmptied h := h.of_station (by simp) (by simp)
  issueHold r h _ _ := h.of_station (by simp) (by simp)
  dwellEnd h _ := h
  arbitrate h := h.of_station (by simp) (by simp)
  endSettling h := h.of_station (by simp) (by simp)
  engineLoss h x := h.of_station (by simp) (by simp)
  release {s} h i _ _ := by
    rcases release_state i s with he | ⟨f, he⟩
    · rwa [he]
    · rw [he]
      exact h.of_station (by simp) (by simp)
  ready h _ path good := h.of_station (by simp) (by simp)
  notReady h _ good := h.of_station (by simp) (by simp)
  opened h _ good := h.of_station (by simp) (by simp)
  nak h _ good := h.of_station (by simp) (by simp)
  closed h _ x good := h.of_station (by simp) (by simp)
  queryAnswer h i path good := h.queryAnswer i path good
  armTimeout h := h.of_station (by simp) (by simp)
  breakTimeout h := h.of_station (by simp) (by simp)
  closedTimeout h := h.of_station (by simp) (by simp)
  queryTimeout h := h.queryTimeout
  gapLimit h := h.of_station (by simp) (by simp)
  fallbackWaitLimit h := h.of_station (by simp) (by simp)
  recoveryWaitLimit h := h.of_station (by simp) (by simp)

/-! ### What a request makes of them -/

/-- An OVERRIDE taken: the overrides are open, and one entry is written (R20, R36). -/
def OverrideTaken (s : State) (payload : List Byte) (t : State) : Prop :=
  s.station.overridesOpen = true ∧ ∃ i a : Byte, ∃ attr : Attr, payload = [i, a] ∧ codeAttr a = some attr
    ∧ t.station.overrides = s.station.overrides.set i.toNat (some attr)

theorem decideOverride_settings (p : List Byte) (s : State) :
    s.SettingsOf (decideOverride p s).2
      ∨ (decideOverride p s).2.cfg = s.cfg ∧ OverrideTaken s p (decideOverride p s).2 := by
  have hself : s.SettingsOf s := ⟨rfl, rfl⟩
  simp only [decideOverride, unlocked]
  split
  · split
    next i a =>
      split
      next attr hattr =>
        split
        · split
          next hopen =>
            split
            · exact .inr ⟨rfl, hopen, i, a, attr, rfl, hattr, rfl⟩
            · exact .inl hself
          · exact .inl hself
        · exact .inl hself
      · exact .inl hself
    · exact .inl hself
  · exact .inl hself

/-- The decisions of every request but OVERRIDE. -/
def otherDecisions : List (List Byte → State → Decision) :=
  [decideStatus, decideReadConnection, decideReadNeighbour, decideReadEvents, decideClearEvents, decideRelease, decideLock, decideHold,
    decideRestart, decideIdent, decideUnknown]

/-- Any other request leaves the settings (R20). -/
theorem otherDecision_settings {d : List Byte → State → Decision} (hd : d ∈ otherDecisions) (p : List Byte) (s : State) :
    s.SettingsOf (d p s).2 := by
  have hrun := settingsOf_keptWhileRunning s
  have hself : s.SettingsOf s := ⟨rfl, rfl⟩
  simp only [otherDecisions, List.mem_cons, List.not_mem_nil, or_false] at hd
  rcases hd with rfl | rfl | rfl | rfl | rfl | rfl | rfl | rfl | rfl | rfl | rfl
  · exact (decideStatus_state p s).symm ▸ hself
  · exact (decideReadConnection_state p s).symm ▸ hself
  · exact (decideReadNeighbour_state p s).symm ▸ hself
  · rw [decideReadEvents_state]
    exact hself
  · rw [decideClearEvents_state]
    exact hself
  · rcases decideRelease_state p s with he | ⟨hw, hm, i, -, -, he⟩
    · exact he.symm ▸ hself
    · exact he.symm ▸ hrun.release hself i hw hm
  · simp only [decideLock, unlocked]
    split
    · split <;> exact hself
    · exact hself
  · rcases decideHold_state p s with he | ⟨ha, n, hn, -, he⟩
    · exact he.symm ▸ hself
    · exact he.symm ▸ hrun.issueHold _ hself ha (.inr hn)
  · rw [decideRestart_state]
    exact hself
  · exact (decideIdent_state p s).symm ▸ hself
  · exact (decideUnknown_state p s).symm ▸ hself

/-- The kind byte 7 alone names an OVERRIDE (R189). -/
theorem decideKind_settings (k : Byte) (p : List Byte) (s : State) :
    s.SettingsOf (decideKind k p s).2
      ∨ (decideKind k p s).2.cfg = s.cfg ∧ k = 7 ∧ OverrideTaken s p (decideKind k p s).2 := by
  by_cases hk : k = 7
  · subst hk
    exact (decideOverride_settings p s).imp_right fun ⟨hc, ho⟩ => ⟨hc, rfl, ho⟩
  · refine .inl (otherDecision_settings ?_ p s)
    have hn : k.toNat ≠ 7 := fun h => hk (BitVec.eq_of_toNat_eq h)
    unfold decideKind
    split
    case h_7 => exact absurd ‹_› hn
    all_goals simp [otherDecisions]

@[simp] theorem respond_cfg (k : Byte) (d : Decision) : (State.respond k d).cfg = d.2.cfg := rfl

@[simp] theorem respond_overrides (k : Byte) (d : Decision) : (State.respond k d).station = d.2.station := rfl

@[simp] theorem dropRest_cfg (b : List Byte) (s : State) : (s.dropRest b).cfg = s.cfg := by
  unfold State.dropRest; split <;> rfl

@[simp] theorem dropRest_station (b : List Byte) (s : State) : (s.dropRest b).station = s.station := by
  unfold State.dropRest; split <;> rfl

/-- What one command may make of the settings: nothing, or the loaded configuration taken, or an OVERRIDE taken (R20, R163). -/
def SettingsRuled (c : Instr) (s t : State) : Prop :=
  (t.cfg ≠ s.cfg → s.mode = .loading ∧ ∃ image, c = .readAttemptSuccess image ∧ t.cfg = some (clampImage image).val)
    ∧ (t.station.overrides ≠ s.station.overrides →
        s.station.overridesOpen = true ∧ ∃ i a : Byte, ∃ attr : Attr, codeAttr a = some attr
          ∧ t.station.overrides = s.station.overrides.set i.toNat (some attr)
          ∧ (c = .override [i, a] ∨ c = .unknownRequestKind 7 [i, a]
              ∨ ∃ bytes rest, serviceBytes c = some bytes ∧ gathered bytes = .request 7 [i, a] rest))

theorem State.SettingsOf.ruled {c : Instr} (h : s.SettingsOf t) : SettingsRuled c s t :=
  ⟨fun hc => absurd h.1 hc, fun ho => absurd h.2 ho⟩

theorem SettingsRuled.of_override {c : Instr} {p : List Byte} (hc : t.cfg = s.cfg) (ho : OverrideTaken s p t)
    (hcmd : ∀ i a, p = [i, a] → c = .override [i, a] ∨ c = .unknownRequestKind 7 [i, a]
      ∨ ∃ bytes rest, serviceBytes c = some bytes ∧ gathered bytes = .request 7 [i, a] rest) : SettingsRuled c s t := by
  obtain ⟨hopen, i, a, attr, hp, hattr, ht⟩ := ho
  exact ⟨fun hne => absurd hc hne, fun _ => ⟨hopen, i, a, attr, hattr, ht, hcmd i a hp⟩⟩

/-- The bytes a command brings, taken as a frame (R177). -/
theorem takeFrameBytes_ruled {c : Instr} {bytes : List Byte} (hbytes : serviceBytes c = some bytes) (s : State) :
    SettingsRuled c s (s.takeFrameBytes bytes) := by
  have hself : s.SettingsOf s := ⟨rfl, rfl⟩
  have hgathered : SettingsRuled c s (match gathered bytes with
      | .nothing => s.setRx .idle
      | .arriving => s.setRx .receiving
      | .request kind payload rest => (State.respond kind (decideKind kind payload s)).dropRest rest) := by
    split
    · exact hself.ruled
    · exact hself.ruled
    next k p rest hreq =>
      rcases decideKind_settings k p s with h | ⟨hc, rfl, ho⟩
      · exact State.SettingsOf.ruled ⟨by simpa using h.1, by simpa using h.2⟩
      · refine SettingsRuled.of_override (p := p) (by simpa using hc) (by simpa [OverrideTaken] using ho) ?_
        rintro i a rfl
        exact .inr (.inr ⟨bytes, rest, hbytes, hreq⟩)
  unfold State.takeFrameBytes
  split
  · exact hgathered
  · exact hgathered
  · exact hself.ruled
  · exact hself.ruled

/-- A request's row, its decision known to leave the settings or to be the OVERRIDE the row names (R179). -/
theorem takeRequest_ruled {c : Instr} {k : Byte} {p : List Byte} {d : List Byte → State → Decision}
    (hbytes : serviceBytes c = some (requestBytes k p)) (s : State)
    (hd : s.SettingsOf (d p s).2 ∨ (d p s).2.cfg = s.cfg ∧ OverrideTaken s p (d p s).2
      ∧ ∀ i a, p = [i, a] → c = .override [i, a] ∨ c = .unknownRequestKind 7 [i, a]) :
    SettingsRuled c s (s.takeRequest k p d) := by
  have hself : s.SettingsOf s := ⟨rfl, rfl⟩
  have hresponse : SettingsRuled c s (State.respond k (d p s)) := by
    rcases hd with h | ⟨hc, ho, hcmd⟩
    · exact State.SettingsOf.ruled h
    · exact SettingsRuled.of_override (p := p) hc ho fun i a hp => (hcmd i a hp).elim .inl fun h => .inr (.inl h)
  unfold State.takeRequest
  split
  · exact takeFrameBytes_ruled hbytes s
  · split
    · exact hresponse
    · exact hresponse
    · exact hself.ruled
    · exact hself.ruled

theorem crossing_settings (p : Phase) (e : Edge) (s : State) : s.SettingsOf (s.crossing p e) :=
  ⟨by simp, by simp⟩

/-- The image read in: taken into the configuration when it is good, and the settings left when it is not (R167). -/
theorem imageReadIn_ruled (image : List Byte) (hl : s.mode = .loading) :
    SettingsRuled (.readAttemptSuccess image) s (s.imageReadIn image) := by
  have hfault : s.SettingsOf s.enterConfigFault := (settingsOf_keptWhileRunning s).enterConfigFault ⟨rfl, rfl⟩ hl
  refine of_ite_of_imp (P := SettingsRuled _ s) (fun _ => ?_) fun _ => State.SettingsOf.ruled ⟨rfl, rfl⟩
  refine of_ite_of_imp (P := SettingsRuled _ s) (fun _ => ?_) fun _ => hfault.ruled
  have hloaded : ({ s with cfg := some (clampImage image).val }.setLoader .idle 0).SettingsOf (s.endLoading (clampImage image)) :=
    State.SettingsOf.beginInventory (State.SettingsOf.of_station ⟨rfl, rfl⟩ (by simp) (by simp))
  exact ⟨fun _ => ⟨hl, image, rfl, hloaded.1⟩, fun ho => absurd hloaded.2 ho⟩

theorem SettingsRuled.of_powered {c : Instr} {f : State → State} (h : SettingsRuled c s (f s)) :
    SettingsRuled c s (powered f s) :=
  of_ite_of_imp (P := SettingsRuled c s) (fun _ => State.SettingsOf.ruled ⟨rfl, rfl⟩) fun _ => h

/-- One request's row (R179). -/
theorem SettingsRuled.of_other {c : Instr} {k : Byte} {p : List Byte} {d : List Byte → State → Decision}
    (hbytes : serviceBytes c = some (requestBytes k p)) (hd : d ∈ otherDecisions)
    (he : (Host.Outcome.next (powered (State.takeRequest k p d) s) : Host.Outcome State Fault Refusal) = .next t) :
    SettingsRuled c s t := by
  cases he
  exact SettingsRuled.of_powered (takeRequest_ruled hbytes s (.inl (otherDecision_settings hd p s)))

end Sys2Proof.Machine

namespace Sys2Proof.Proofs
open Sys2Proof.Machine

/-- Settles O6: the rows of a running station leave the settings; an image read in is LOADING's; and of the requests an OVERRIDE alone
writes an entry. -/
theorem settingsChangeOnlyAsRuled : Obligations.SettingsChangeOnlyAsRuled := by
  intro c s t he hpower hporn
  change SettingsRuled c s t
  by_cases hruns : runs c = true
  · exact ((settingsOf_keptWhileRunning s).of_exec hruns ⟨rfl, rfl⟩ he).ruled
  cases c with
  | powerOnReset => exact absurd rfl hpower
  | pornRise => exact absurd rfl hporn
  | readAttemptSuccess image =>
    cases he
    refine SettingsRuled.of_powered ?_
    by_cases hl : s.mode = .loading
    · exact imageReadIn_ruled image hl
    · rw [State.imageReadIn, if_neg (by simp [State.loaderReading, hl])]
      exact State.SettingsOf.ruled ⟨rfl, rfl⟩
  | crossing p e =>
    cases he
    exact of_ite_of_imp (P := SettingsRuled _ s) (fun _ => State.SettingsOf.ruled ⟨rfl, rfl⟩) fun _ => (crossing_settings p e s).ruled
  | status p | readConnection p | readNeighbour p | readEvents p | clearEvents p | release p | lock p | hold p | restart p | ident p =>
    exact SettingsRuled.of_other rfl (by simp [otherDecisions]) he
  | override p =>
    cases he
    exact SettingsRuled.of_powered (takeRequest_ruled rfl s
      ((decideOverride_settings p s).imp_right fun ⟨hc, ho⟩ => ⟨hc, ho, fun i a hp => .inl (hp ▸ rfl)⟩))
  | unknownRequestKind k p =>
    cases he
    exact SettingsRuled.of_powered (takeRequest_ruled rfl s
      ((decideKind_settings k p s).imp_right fun ⟨hc, hk, ho⟩ => ⟨hc, ho, fun i a hp => .inr (hk ▸ hp ▸ rfl)⟩))
  | malformedFrame bytes =>
    cases he
    exact SettingsRuled.of_powered (takeFrameBytes_ruled rfl s)
  | _ => exact absurd rfl hruns

end Sys2Proof.Proofs


/-! The arbiter's look, the judging of an answer and the crossing, each said once; with them the tier 1 statements about them. -/

namespace Sys2Proof.Machine

variable {s t : State}

/-- A change of one record, value by value. -/
theorem modConn_eq_set (i : Nat) (f : Conn → Conn) (s : State) : s.modConn i f = { s with conns := s.conns.set i (f (s.conn i)) } := by
  have hconns : s.conns.modify i f = s.conns.set i (f (s.conn i)) := by
    refine List.ext_getElem? fun j => ?_
    rw [List.getElem?_modify, List.getElem?_set, State.conn, List.getD_eq_getElem?_getD]
    by_cases hij : i = j
    · subst hij
      by_cases hi : i < s.conns.length <;> simp [hi]
    · simp [hij]
  rw [State.modConn, hconns]

/-! ### The arbiter (R60, R61) -/

/-- The due member is the first whose retry remaining has run out (R30, R61). -/
theorem dueMember_of_first {i : Nat} {k : Member} (hi : i < 32) (hmem : (s.conn i).member = some k) (hdue : k.retry = 0)
    (hbefore : ∀ j < i, ((s.conn j).member.all fun x => decide (0 < x.retry)) = true) : s.dueMember = some (i, k.kind) := by
  have hsplit : List.range 32 = List.range i ++ i :: (List.range (31 - i)).map (i + 1 + ·) := by
    have h32 : 32 = i + 1 + (31 - i) := by omega
    rw [h32, List.range_add, List.range_succ]
    simp
  rw [State.dueMember, List.findSome?_eq_some_iff]
  refine ⟨_, i, _, hsplit, by simp [hmem, hdue], fun j hj => ?_⟩
  have hb := hbefore j (List.mem_range.mp hj)
  rcases hm : (s.conn j).member with _ | x
  · rfl
  · rw [hm] at hb
    simp only [Option.all_some, decide_eq_true_eq] at hb
    exact if_neg (by omega)

/-- No member is due when every one has retry time left (R30). -/
theorem dueMember_eq_none (h : ∀ j < 32, ((s.conn j).member.all fun x => decide (0 < x.retry)) = true) : s.dueMember = none := by
  rw [State.dueMember, List.findSome?_eq_none_iff]
  intro j hj
  have hb := h j (List.mem_range.mp hj)
  rcases hm : (s.conn j).member with _ | x
  · rfl
  · rw [hm] at hb
    simp only [Option.all_some, decide_eq_true_eq] at hb
    exact if_neg (by omega)

/-- A FREE engine takes the due member first (R61). -/
theorem arbitrate_due {i : Nat} {kind : RecKind} (hfree : s.engine.req = none) (hmode : s.mode = .active ∨ s.mode = .listenOnly)
    (hdue : s.dueMember = some (i, kind)) : s.arbitrate = s.takeMember i kind := by
  rcases hmode with hm | hm <;> simp [State.arbitrate, State.arbiter, hfree, hm, hdue]

/-! ### Answers (R57) -/

/-- A request in flight is judged against an answer of good check value that names its outstanding command's connection. -/
theorem answered_some {i : Nat} {good : Bool} {r : Req} (h : s.answered i good = some r) :
    s.engine.req = some r ∧ good = true ∧ ∃ k, r.outstanding = some k ∧ k.index = i := by
  have hreq := req_of_answered h
  rw [State.answered, hreq] at h
  dsimp only at h
  split at h
  next hc =>
    obtain ⟨k, hk, hi⟩ := Option.map_eq_some_iff.mp hc.2
    exact ⟨hreq, hc.1, k, hk, hi⟩
  · cases h

/-- The answer to the command outstanding. -/
theorem answered_of {r : Req} {k : ModCmd} {i : Nat} (hreq : s.engine.req = some r) (hout : r.outstanding = some k) (hi : k.index = i) :
    s.answered i true = some r := by
  simp [State.answered, hreq, hout, hi]

/-- An event that changes nothing. -/
theorem next_powered_self {f : State → State} (h : f s = s) :
    (Host.Outcome.next (powered f s) : Host.Outcome State Fault Refusal) = .next s := by
  rw [powered, h, ite_self]

section
variable {i : Nat} {path : Option Phase} {x : Phase} {good : Bool}

theorem outstanding_arming {m : MoveReq} (hs : m.step = .arming) : (Req.move m).outstanding = some (.arm m.conn) := by
  simp [Req.outstanding, MoveReq.outstanding, hs]

theorem outstanding_breakSent {m : MoveReq} (hs : m.step = .breakSent) : (Req.move m).outstanding = some (.break m.conn) := by
  simp [Req.outstanding, MoveReq.outstanding, hs]

theorem outstanding_breakQuery {m : MoveReq} (hs : m.step = .breakQuery) : (Req.move m).outstanding = some (.query m.conn) := by
  simp [Req.outstanding, MoveReq.outstanding, hs]

theorem outstanding_making {m : MoveReq} (hs : m.step = .making) : (Req.move m).outstanding = some (.make m.conn m.dst) := by
  simp [Req.outstanding, MoveReq.outstanding, hs]

theorem outstanding_fbMake {m : MoveReq} {p : Phase} (hs : m.step = .fbMake p) :
    (Req.move m).outstanding = some (.make m.conn p) := by
  simp [Req.outstanding, MoveReq.outstanding, hs]

/-- An answer is judged against the outstanding command, which names its connection. -/
theorem asked_of_answered {r : Req} {k : ModCmd} (ha : s.answered i good = some r) (hk : r.outstanding = some k) :
    good = true ∧ s.engine.req.bind Req.outstanding = some k ∧ k.index = i := by
  obtain ⟨hreq, hgood, k', hk', hi⟩ := answered_some ha
  cases hk.symm.trans hk'
  exact ⟨hgood, by rw [hreq]; exact hk, hi⟩

theorem ready_discarded (h : ¬(good = true ∧ s.engine.req.bind Req.outstanding = some (.arm i))) : s.ready i path good = s := by
  unfold State.ready
  split
  next m ha =>
    split
    next hs =>
      obtain ⟨hgood, hout, rfl⟩ := asked_of_answered ha (outstanding_arming hs)
      exact absurd ⟨hgood, hout⟩ h
    · rfl
  · rfl

theorem notReady_discarded (h : ¬(good = true ∧ s.engine.req.bind Req.outstanding = some (.arm i))) : s.notReady i good = s := by
  unfold State.notReady
  split
  next m ha =>
    split
    next hs =>
      obtain ⟨hgood, hout, rfl⟩ := asked_of_answered ha (outstanding_arming hs)
      exact absurd ⟨hgood, hout⟩ h
    · rfl
  · rfl

theorem opened_discarded (h : ¬(good = true ∧ s.engine.req.bind Req.outstanding = some (.break i))) : s.opened i good = s := by
  unfold State.opened
  split
  next m ha =>
    split
    next hs =>
      obtain ⟨hgood, hout, rfl⟩ := asked_of_answered ha (outstanding_breakSent hs)
      exact absurd ⟨hgood, hout⟩ h
    · rfl
  · rfl

/-- CLOSED is of a kind that a MAKE alone can receive. -/
theorem closedTaken_self {r : Req} (h : ∀ j p, r.outstanding ≠ some (.make j p)) : s.closedTaken r x = s := by
  unfold State.closedTaken
  split
  next m =>
    cases hs : m.step with
    | making => exact absurd (outstanding_making hs) (h _ _)
    | fbMake p => exact absurd (outstanding_fbMake hs) (h _ _)
    | _ => rfl
  · exact absurd rfl (h _ _)
  all_goals rfl

/-- NAK is of a kind that a BREAK or a MAKE can receive. -/
theorem refused_self {r : Req} (hb : ∀ j, r.outstanding ≠ some (.break j)) (h : ∀ j p, r.outstanding ≠ some (.make j p)) :
    s.refused r = s := by
  unfold State.refused
  split
  next m =>
    cases hs : m.step with
    | making => exact absurd (outstanding_making hs) (h _ _)
    | fbMake p => exact absurd (outstanding_fbMake hs) (h _ _)
    | breakSent => exact absurd (outstanding_breakSent hs) (hb _)
    | _ => rfl
  · exact absurd rfl (h _ _)
  all_goals rfl

/-- A QUERY answer is of a kind that a QUERY alone can receive. -/
theorem queryTaken_self {r : Req} (h : ∀ j, r.outstanding ≠ some (.query j)) : s.queryTaken r path = s := by
  unfold State.queryTaken
  split
  next m =>
    cases hs : m.step with
    | breakQuery => exact absurd (outstanding_breakQuery hs) (h _)
    | _ => rfl
  · exact absurd rfl (h _)
  · exact absurd rfl (h _)
  · exact absurd rfl (h _)
  all_goals rfl

theorem closed_discarded (h : ¬(good = true ∧ ∃ p, s.engine.req.bind Req.outstanding = some (.make i p))) :
    s.closed i x good = s := by
  unfold State.closed
  split
  next r ha =>
    refine closedTaken_self fun j p hj => ?_
    obtain ⟨hgood, hout, rfl⟩ := asked_of_answered ha hj
    exact h ⟨hgood, p, hout⟩
  · rfl

theorem nak_discarded (h : ¬(good = true ∧ (s.engine.req.bind Req.outstanding = some (.break i)
    ∨ ∃ p, s.engine.req.bind Req.outstanding = some (.make i p)))) : s.nak i good = s := by
  unfold State.nak
  split
  next r ha =>
    refine refused_self (fun j hj => ?_) fun j p hj => ?_
    · obtain ⟨hgood, hout, rfl⟩ := asked_of_answered ha hj
      exact h ⟨hgood, .inl hout⟩
    · obtain ⟨hgood, hout, rfl⟩ := asked_of_answered ha hj
      exact h ⟨hgood, .inr ⟨p, hout⟩⟩
  · rfl

theorem queryAnswer_discarded (h : ¬(good = true ∧ s.engine.req.bind Req.outstanding = some (.query i))) :
    s.queryAnswer i path good = s := by
  unfold State.queryAnswer
  split
  next r ha =>
    refine queryTaken_self fun j hj => ?_
    obtain ⟨hgood, hout, rfl⟩ := asked_of_answered ha hj
    exact h ⟨hgood, hout⟩
  · rfl

end

/-! ### Crossings (R1 to R5) -/

/-- A crossing for which no command is held does not reach the engine (R65, R66, R68, R73). -/
theorem engineCrossing_self {p : Phase} (h : (s.engine.req.all fun r => !r.waitsFor p) = true) : s.engineCrossing p = s := by
  unfold State.engineCrossing
  split
  next m hr =>
    simp only [hr, Option.all_some, Req.waitsFor, Bool.not_eq_true'] at h
    cases hs : m.step with
    | breakWait | gap | fbWait t =>
      simp only [hs, beq_eq_false_iff_ne] at h
      exact if_neg h
    | _ => rfl
  next i t n hr =>
    simp only [hr, Option.all_some, Req.waitsFor, Bool.not_eq_true', beq_eq_false_iff_ne] at h
    exact if_neg h
  all_goals rfl

/-- Cycles counted leave the phase a request waits for. -/
theorem waitsFor_count (p : Phase) (n : Nat) (r : Req) : (r.count n).waitsFor p = r.waitsFor p := by
  rcases r with m | ⟨i, st, k⟩ | _ | _
  · rfl
  · cases st <;> rfl
  · rfl
  · rfl

/-- The state after a crossing's mark and watch (R1). -/
def State.crossingMarked (p : Phase) (e : Edge) (s : State) : State :=
  { s with
    pins := { s.pins with zc := s.pins.zc.set p (e == .positive) }
    phases := s.phases.set p { s.phases.get p with mark := true, watch := s.present p } }

theorem crossingCounted_eq (p : Phase) (e : Edge) (s : State) :
    s.crossingCounted p e =
      if e = .negative then
        if s.time.ref = some p then (s.crossingMarked p e).referenceCrossing p
        else (s.crossingMarked p e).modTime (Time.crossed p false)
      else s.crossingMarked p e := rfl

/-- A reference crossing that is counted (R2, R5). -/
theorem counted_eq (mains : Nat) (p : Phase) (t : Time) :
    (t.counted mains).crossed p true =
      { t with
        counter := t.counter + 1
        changing := false
        countedSince := Ph3.set ⟨true, true, true⟩ p false
        source := .mains
        divider := if t.source = .holdover then 0 else if mains ≤ t.divider + 1 then 0 else t.divider + 1
        ticksDue := if t.source = .mains ∧ mains ≤ t.divider + 1 then t.ticksDue + 1 else t.ticksDue } := by
  cases hsrc : t.source with
  | holdover => simp [Time.counted, Time.crossed, hsrc, Ph3.same]
  | mains => by_cases hm : mains ≤ t.divider + 1 <;> simp [Time.counted, Time.crossed, hsrc, hm, Ph3.same]

/-! ### The command a request holds for a crossing (R65, R66, R68, R73) -/

theorem accessCycles_engine (e : Engine) (n : Nat) (s : State) :
    State.accessCycles n { s with engine := e } = { s.accessCycles n with engine := e } := by
  induction n generalizing s with
  | zero => rfl
  | succ n ih => rw [State.accessCycles, State.accessCycle_engine, ih, State.accessCycles]

/-- Cycles count toward the request alone of what the engine holds. -/
theorem cyclesPass_eq (n : Nat) (s : State) :
    s.cyclesPass n = { s.accessCycles n with engine := { s.engine with req := s.engine.req.map (Req.count n) } } :=
  accessCycles_engine _ n s

/-- The station with the engine FREE. -/
def State.freed (s : State) : State := { s with engine := { s.engine with req := none } }

theorem cyclesPass_freed (n : Nat) (s : State) : s.freed.cyclesPass n = (s.cyclesPass n).freed := by
  rw [cyclesPass_eq, cyclesPass_eq, State.freed, accessCycles_engine]
  rfl

/-- The counter and the access take a crossing as they do with no request in flight. -/
theorem crossingCounted_freed (p : Phase) (e : Edge) (s : State) :
    s.freed.crossingCounted p e = (s.crossingCounted p e).freed := by
  have hreference (t : State) : t.freed.referenceCrossing p = (t.referenceCrossing p).freed := by
    simp only [State.referenceCrossing]
    rw [apply_ite State.freed, apply_ite State.freed]
    have hcounted := cyclesPass_freed 1 (t.modTime fun x => (x.counted t.conf.mains).crossed p true)
    exact ite_congr rfl (fun _ => rfl) fun _ => ite_congr rfl (fun _ => rfl) fun _ => hcounted
  rw [crossingCounted_eq, crossingCounted_eq, apply_ite State.freed, apply_ite State.freed]
  exact ite_congr rfl (fun _ => ite_congr rfl (fun _ => hreference (s.crossingMarked p e)) fun _ => rfl) fun _ => rfl

/-- The counter and the access leave the engine but for its request. -/
theorem crossingCounted_engine (p : Phase) (e : Edge) (s : State) :
    (s.crossingCounted p e).freed.engine = s.freed.engine := by
  rw [← crossingCounted_freed, crossingCounted_eq]
  split
  · split
    · rw [State.referenceCrossing]
      split
      · rfl
      · split
        · rfl
        · rw [cyclesPass_eq]
          rfl
    · rfl
  · rfl

/-- A crossing of the awaited phase makes the request `r` into `r'` and sends the command `k` (R65, R66, R68, R73). -/
def Req.crossesInto (p : Phase) (r r' : Req) (k : ModCmd) : Prop :=
  (∃ m : MoveReq, r = .move m ∧ m.step = .breakWait ∧ m.src = p
      ∧ r' = .move { m with step := .breakSent, cycles := 3 } ∧ k = .break m.conn)
    ∨ (∃ m : MoveReq, r = .move m ∧ m.step = .gap ∧ m.dst = p
      ∧ r' = .move { m with step := .making, cycles := 3 } ∧ k = .make m.conn p)
    ∨ (∃ m : MoveReq, r = .move m ∧ m.step = .fbWait p
      ∧ r' = .move { m with step := .fbMake p, cycles := 3 } ∧ k = .make m.conn p)
    ∨ ∃ i n, r = .recovery i (.wait p) n ∧ r' = .recovery i (.make p) 3 ∧ k = .make i p

/-- The engine sends the held command, whatever was left of the wait. -/
theorem engineCrossing_held {p : Phase} {r r' : Req} {k : ModCmd} {n : Nat} (h : r.crossesInto p r' k)
    (hreq : s.engine.req = some (r.count n)) :
    s.engineCrossing p = { s with engine := { s.engine with req := some r' }, out := .command k :: s.out } := by
  rcases h with ⟨m, rfl, hs, hp, rfl, rfl⟩ | ⟨m, rfl, hs, rfl, rfl, rfl⟩ | ⟨m, rfl, hs, rfl, rfl⟩ | ⟨i, l, rfl, rfl, rfl⟩
  · simp only [State.engineCrossing, hreq, Req.count, hs, hp, if_true]
    rfl
  · simp only [State.engineCrossing, hreq, Req.count, hs, if_true]
    rfl
  · simp only [State.engineCrossing, hreq, Req.count, hs, if_true]
    rfl
  · simp only [State.engineCrossing, hreq, Req.count, if_true]
    rfl

/-- A crossing leaves everything but the input, the marks, the counter and the access as it was. -/
theorem crossingCounted_frame (p : Phase) (e : Edge) (s : State) :
    let t := s.crossingCounted p e
    t.conns = s.conns ∧ t.meas = s.meas ∧ t.planner = s.planner ∧ t.flags = s.flags ∧ t.station = s.station ∧ t.cfg = s.cfg
      ∧ t.budget = s.budget ∧ t.nbrs = s.nbrs ∧ t.comps = s.comps ∧ t.svc = s.svc ∧ t.pending = s.pending := by
  dsimp only
  rw [crossingCounted_eq]
  (repeat' split) <;> simp [State.crossingMarked, State.modTime]

end Sys2Proof.Machine

namespace Sys2Proof.Proofs
open Sys2Proof.Machine

/-- Settles O30: each kind of answer is taken only where a command that can receive it is outstanding. -/
theorem unaskedAnswersAreDiscarded : Obligations.UnaskedAnswersAreDiscarded := by
  intro i path x good s
  refine ⟨fun h => ⟨?_, ?_⟩, fun h => ?_, fun h => ?_, fun h => ?_, fun h => ?_⟩
  · exact next_powered_self (f := State.ready i path good) (ready_discarded h)
  · exact next_powered_self (f := State.notReady i good) (notReady_discarded h)
  · exact next_powered_self (f := State.opened i good) (opened_discarded h)
  · exact next_powered_self (f := State.closed i x good) (closed_discarded h)
  · exact next_powered_self (f := State.nak i good) (nak_discarded h)
  · exact next_powered_self (f := State.queryAnswer i path good) (queryAnswer_discarded h)

/-- Settles O7: by the branches of the counter's taking of a crossing, the engine holding no command for it. -/
theorem crossingReachesTheCounter : Obligations.CrossingReachesTheCounter := by
  intro p e s hp hnone
  have hnotPositive : Edge.negative ≠ Edge.positive := by decide
  dsimp only
  change Host.Outcome.next (if s.pins.pornLow then _ else s.crossing p e) = _
  rw [if_neg (by simp [hp]), crossing_eq, engineCrossing_self]
  · congr 1
    rw [crossingCounted_eq]
    cases e with
    | positive => rfl
    | negative =>
      rw [if_pos rfl, if_neg hnotPositive]
      by_cases href : s.time.ref = some p
      · rw [if_pos href, if_neg (by simp [href]), State.referenceCrossing]
        by_cases hal : s.time.aligned = false
        · rw [if_pos hal, if_pos (by simp [State.crossingMarked, hal])]
          rfl
        · rw [if_neg hal, if_neg (by simpa [State.crossingMarked] using hal)]
          by_cases hch : s.time.changing = true ∧ s.time.countedSince.get p = true
          · rw [if_pos hch, if_pos (by simpa [State.crossingMarked] using hch)]
            rfl
          · rw [if_neg hch, if_neg (by simpa [State.crossingMarked] using hch), cyclesPass_one, State.modTime, counted_eq]
            rfl
      · rw [if_neg href, if_pos href]
        rfl
  · obtain ⟨-, n, hreq⟩ := crossingCounted_spec p e s
    rw [hreq]
    rcases hr : s.engine.req with _ | r
    · rfl
    · simpa [hr, waitsFor_count] using hnone

/-- Settles O8: the crossing reaches the counter and the access as with no request in flight, and then the engine. -/
theorem crossingSendsHeldCommand : Obligations.CrossingSendsHeldCommand := by
  intro p e s r r' k hp hreq hheld
  have hexec (t : State) (ht : t.pins.pornLow = false) : exec (.crossing p e) t = .next (t.crossing p e) := by
    change Host.Outcome.next (if t.pins.pornLow then _ else t.crossing p e) = _
    rw [if_neg (by simp [ht])]
  obtain ⟨-, n, hn⟩ := crossingCounted_spec p e s
  have hcount : (s.crossingCounted p e).engine.req = some (r.count n) := by rw [hn, hreq]; rfl
  obtain ⟨hconns, hmeas, hplanner, hflags, hstation, hcfg, hbudget, hnbrs, hcomps, hsvc, hpending⟩ := crossingCounted_frame p e s
  refine ⟨(s.crossingCounted p e).freed, ?_, ?_, hconns, hmeas, hplanner, hflags, hstation, hcfg, hbudget, hnbrs, hcomps, hsvc,
    hpending, ?_⟩
  · refine (hexec s.freed hp).trans ?_
    rw [crossing_eq, engineCrossing_self]
    · exact congrArg _ (crossingCounted_freed p e s)
    · exact congrArg (fun t : State => t.engine.req.all fun r => !r.waitsFor p) (crossingCounted_freed p e s)
  · have hengine := congrArg (fun x : Engine => { x with req := some r' }) (crossingCounted_engine p e s)
    rw [hexec _ hp, crossing_eq, engineCrossing_held hheld hcount]
    exact congrArg (fun x => Host.Outcome.next { s.crossingCounted p e with engine := x, out := .command k :: (s.crossingCounted p e).out })
      hengine
  · rintro rfl
    exact ⟨rfl, rfl, rfl, rfl⟩

/-- Settles O12: by the cases of the row of a data-ready, and the row of the measurement going STALE as defined. -/
theorem recordsTakenAndMeasurementStale : Obligations.RecordsTakenAndMeasurementStale := by
  refine ⟨fun w s hp => ⟨?_, ?_⟩, fun s hp => ?_⟩
  · change Host.Outcome.next (powered (State.dataReady w) s) = _
    rw [powered_of_high _ hp, State.dataReady]
    congr 1
    by_cases hm : s.mode = .loading ∨ s.mode = .configFault
    · rw [if_pos hm, if_neg (by rcases hm with hm | hm <;> simp [hm, Mode.working])]
      rfl
    · have hw : s.mode.working = true := by
        cases hmode : s.mode <;> simp_all [Mode.working]
      rw [if_neg hm, if_pos hw]
      exact ite_congr (by simp [Option.isSome_iff_ne_none]) (fun _ => rfl) fun _ => rfl
  · change Host.Outcome.next (powered _ s) = _
    rw [powered_of_high _ hp]
  · change Host.Outcome.next (powered State.ageEnd s) = _
    rw [powered_of_high _ hp]
    rfl

/-- Settles O16: the row of a dwell's end rewrites one record, and a FREE engine takes the first due member. -/
theorem dwellEndAndDueMember : Obligations.DwellEndAndDueMember := by
  refine ⟨fun i s hp => ?_, fun i k s hp hmode hi hfree hmem hdue hbefore => ?_⟩
  · change Host.Outcome.next (powered (State.modConn i _) s) = _
    rw [powered_of_high _ hp]
    congr 1
    by_cases hend : (s.conn i).st = .resting ∧ (s.conn i).dwell = 0 ∧ (s.conn i).unticked = false
    · rw [if_pos hend, modConn_eq_set, if_pos hend]
    · rw [if_neg hend, modConn_eq_self]
      rw [if_neg hend]
  · change Host.Outcome.next (powered _ s) = _
    rw [powered_of_high _ hp, if_pos (by simp [hmem, hdue]),
      arbitrate_due hfree hmode (dueMember_of_first hi hmem hdue hbefore)]
    cases k.kind <;> rfl

end Sys2Proof.Proofs


/-! How a move concludes (R72) where nothing else waits: the record, the flags, the free engine. The statements about single moves use
it. -/

namespace Sys2Proof.Machine

variable {s t : State} {i : Nat} {m : MoveReq} {k : Conclusion}

/-! ### Nothing else waits -/

theorem noOtherDue_iff : s.noOtherDue i = true ↔ ∀ j < 32, j ≠ i → ((s.conn j).member.all fun k => decide (0 < k.retry)) = true := by
  simp only [State.noOtherDue, List.all_eq_true, List.mem_range, Bool.or_eq_true, beq_iff_eq, or_iff_not_imp_left, ne_eq]

theorem nothingElse_iff :
    s.nothingElse i = true ↔ s.noOtherDue i = true ∧ s.engine.rescue = [] ∧ s.engine.rescueDone = false ∧ s.planner.st = .idle := by
  simp only [State.nothingElse, Bool.and_eq_true, List.isEmpty_iff, Bool.not_eq_true', beq_iff_eq, and_assoc]

/-- The arbiter finds nothing to take, a request in flight or not (R60). -/
theorem arbitrate_idle (hmode : s.mode ≠ .inventory) (hdue : s.dueMember = none) (hrescue : s.engine.rescue = [])
    (hidle : s.planner.st = .idle) : s.arbitrate = s := by
  have hoffer : s.offeredMove = none := by
    unfold State.offeredMove
    split
    · rfl
    · exact if_neg (by simp [hidle])
  rw [State.arbitrate, State.arbiter]
  split
  · rfl
  · cases hm : s.mode with
    | inventory => exact absurd hm hmode
    | listenOnly => simp only [hdue]
    | active => simp only [hdue, hrescue, hoffer]
    | loading | configFault | blackout => rfl

/-- The arbiter's look once the request of `i` is over and `i` is not due. -/
theorem arbitrate_nothingElse (h : s.nothingElse i = true) (hi : ((s.conn i).member.all fun k => decide (0 < k.retry)) = true)
    (hmode : s.mode ≠ .inventory) : s.arbitrate = s := by
  obtain ⟨hdue, hrescue, -, hidle⟩ := nothingElse_iff.mp h
  refine arbitrate_idle hmode (dueMember_eq_none fun j hj => ?_) hrescue hidle
  by_cases hij : j = i
  · exact hij ▸ hi
  · exact noOtherDue_iff.mp hdue j hj hij

theorem nothingElse_of (h : s.nothingElse i = true) (hconns : ∀ j, j ≠ i → t.conn j = s.conn j)
    (hrescue : t.engine.rescue = s.engine.rescue) (hdone : t.engine.rescueDone = s.engine.rescueDone)
    (hplanner : t.planner.st = s.planner.st) : t.nothingElse i = true := by
  obtain ⟨h1, h2, h3, h4⟩ := nothingElse_iff.mp h
  refine nothingElse_iff.mpr ⟨noOtherDue_iff.mpr fun j hj hij => ?_, hrescue.trans h2, hdone.trans h3, hplanner.trans h4⟩
  rw [hconns j hij]
  exact noOtherDue_iff.mp h1 j hj hij

theorem rescueEmptied_self (h : s.engine.rescueDone = false) : s.rescueEmptied = s := by
  simp [State.rescueEmptied, h]

theorem planResult_self (pos : Nat) (r : MoveResult) (h : s.planner.st ≠ .executing) : s.planResult pos r = s := by
  unfold State.planResult
  split
  · rfl
  · exact if_neg fun hx => h hx.1

theorem becomesHeld_idle (h : s.planner.st = .idle) : s.becomesHeld = s := by
  simp [State.becomesHeld, State.onSetback, h]

/-- The rescue entry of a connection that has concluded STEADY or RESTING on a LOST phase, where it is not listed yet (R76). -/
def State.stranded (s : State) (i : Nat) : List RescueEntry :=
  match (s.conn i).cur with
  | some x =>
    if (s.isActive ∧ s.attrOf i = .movable ∧ ((s.conn i).st = .steady ∨ (s.conn i).st = .resting) ∧ s.present x = false)
        ∧ s.engine.lists i = false then
      [⟨i, (s.held i).value, x⟩]
    else []
  | none => []

theorem appendStranded_eq (i : Nat) (s : State) :
    s.appendStranded i = { s with engine := { s.engine with rescue := s.engine.rescue ++ s.stranded i } } := by
  unfold State.appendStranded State.stranded
  cases (s.conn i).cur with
  | none => simp
  | some x =>
    dsimp only
    by_cases hc : s.isActive ∧ s.attrOf i = .movable ∧ ((s.conn i).st = .steady ∨ (s.conn i).st = .resting) ∧ s.present x = false
    · rw [if_pos hc, State.appendRescue]
      cases hl : s.engine.lists i with
      | true => simp
      | false =>
        rw [if_neg Bool.false_ne_true, if_pos ⟨hc, rfl⟩]
        rfl
    · rw [if_neg hc, if_neg (fun h => hc h.1)]
      simp

theorem stranded_nil (h : ∀ x, (s.conn i).cur = some x → (s.conn i).st = .steady ∨ (s.conn i).st = .resting → s.present x = true) :
    s.stranded i = [] := by
  unfold State.stranded
  split
  next x hx =>
    refine if_neg fun ⟨⟨_, _, hst, hlost⟩, _⟩ => ?_
    rw [h x hx hst] at hlost
    cases hlost
  · rfl

/-- A connection that is not left STEADY or RESTING on a LOST phase is not stranded (R76). -/
theorem appendStranded_self
    (h : ∀ x, (s.conn i).cur = some x → (s.conn i).st = .steady ∨ (s.conn i).st = .resting → s.present x = true) :
    s.appendStranded i = s := by
  rw [appendStranded_eq, stranded_nil h, List.append_nil]

/-! ### The record of a request that is over -/

/-- Two changes that agree on the record are the same change. -/
theorem modConn_congr {f g : Conn → Conn} (h : f (s.conn i) = g (s.conn i)) : s.modConn i f = s.modConn i g := by
  rw [modConn_eq_set, modConn_eq_set, h]

/-- A connection without a record has an unconfigured one. -/
theorem conn_of_le (h : s.conns.length ≤ i) : s.conn i = Conn.unconfigured := by
  simp [State.conn, h]

/-- The record of `i` changed by `f` and its pre-move value dropped, the engine FREE, and `flags` set (R12, R59, R72). -/
def State.concluded (s : State) (i : Nat) (f : Conn → Conn) (flags : BitVec 19) : State :=
  { s with
    conns := s.conns.modify i f
    meas := { s.meas with held := s.meas.held.modify i fun h => { h with preMove := none } }
    engine := { s.engine with req := none }
    flags := s.flags ||| flags }

theorem concluded_congr {f g : Conn → Conn} (h : f (s.conn i) = g (s.conn i)) (flags : BitVec 19) :
    s.concluded i f flags = s.concluded i g flags :=
  congrArg (fun t : State => { s.concluded i f flags with conns := t.conns }) (modConn_congr h)

/-- The record of `i` after a change. -/
theorem conn_concluded (f : Conn → Conn) (flags : BitVec 19) (hnone : s.conns.length ≤ i → f Conn.unconfigured = Conn.unconfigured) :
    (s.concluded i f flags).conn i = f (s.conn i) := by
  change (s.modConn i f).conn i = _
  by_cases hi : i < s.conns.length
  · exact conn_modConn_self hi f
  · rw [conn_modConn, if_neg (fun h => hi h.2), conn_of_le (by omega)]
    exact (hnone (by omega)).symm

/-- What holds of the changed record, and of no record, holds of the record of `i` after the change. -/
theorem conn_concluded_of {P : Conn → Prop} {f : Conn → Conn} {flags : BitVec 19} (hf : P (f (s.conn i))) (hnone : P Conn.unconfigured) :
    P ((s.concluded i f flags).conn i) := by
  change P ((s.modConn i f).conn i)
  rw [conn_modConn]
  split
  · exact hf
  next h =>
    by_cases hi : i < s.conns.length
    · exact absurd ⟨rfl, hi⟩ h
    · rwa [conn_of_le (by omega)]

theorem concluded_nothingElse (h : s.nothingElse i = true) (f : Conn → Conn) (flags : BitVec 19) :
    (s.concluded i f flags).nothingElse i = true :=
  nothingElse_of h (fun _ hj => conn_modConn_of_ne hj f) rfl rfl rfl

/-! ### Conclusions (R72) -/

/-- The flags a conclusion sets (R64, R72). -/
def conclusionFlags (rescue outside silent : Bool) (k : Conclusion) : BitVec 19 :=
  (if silent then 0x4 else 0) ||| match k with
    | .done => 0
    | .notReady => if rescue then 0x1000 else 0
    | .skippedOn _ => if outside then 0x2 else 0
    | .failedOn _ => 0x2
    | .failedDark => 0x3

theorem setFlagIf_eq (b : Bool) (f : Flag) (s : State) :
    s.setFlagIf b f = { s with flags := s.flags ||| if b then BitVec.twoPow 19 f.code else 0 } := by
  cases b with
  | true => rfl
  | false => simp [State.setFlagIf]

theorem flagConclusion_eq (rescue outside silent : Bool) (k : Conclusion) (s : State) :
    s.flagConclusion rescue outside silent k = { s with flags := s.flags ||| conclusionFlags rescue outside silent k } := by
  have hsilent : s.setFlagIf silent .moduleSilent = { s with flags := s.flags ||| if silent then 0x4 else 0 } := by
    cases silent <;> rw [setFlagIf_eq] <;> rfl
  unfold State.flagConclusion
  unfold conclusionFlags
  rw [hsilent, ← BitVec.or_assoc]
  cases k with
  | done => simp
  | notReady =>
    dsimp only
    rw [setFlagIf_eq]
    rfl
  | skippedOn =>
    dsimp only
    rw [setFlagIf_eq]
    rfl
  | failedOn => rfl
  | failedDark =>
    simp only [State.setFlag]
    rw [BitVec.or_assoc (s.flags ||| _)]
    rfl

/-- A path outside the allowed set is named by the conclusion (R72). -/
def Conclusion.outside (allowed : Phase → Bool) : Conclusion → Bool
  | .skippedOn r => !allowed r
  | .done | .notReady | .failedOn _ | .failedDark => false

/-- The state in which a conclusion hands its results on: the record, the flags and the free engine of R72. -/
def State.concludedBy (s : State) (m : MoveReq) (k : Conclusion) (silent : Bool) : State :=
  s.concluded m.conn (Conn.conclude m.rescue s.conf.dwell (s.allows m.conn) k)
    (conclusionFlags m.rescue (k.outside (s.allows m.conn)) silent k)

/-- Any conclusion but DONE, before its results are handed on. -/
theorem recordConclusion_flagged (hk : k ≠ .done) (m : MoveReq) (silent : Bool) (s : State) :
    ((s.recordConclusion m k).flagConclusion m.rescue (k.outside (s.allows m.conn)) silent k).setReq none
      = if k = .notReady ∧ m.rescue = true then s.concludedBy m k silent else (s.concludedBy m k silent).appendStranded m.conn := by
  rw [flagConclusion_eq, State.recordConclusion, if_neg (fun h => hk h.1)]
  by_cases hn : k = .notReady ∧ m.rescue = true
  · rw [if_pos hn, if_pos hn]
    rfl
  · rw [if_neg hn, if_neg hn]
    rw [appendStranded_eq, appendStranded_eq]
    rfl

/-- The stages of a conclusion (R72). -/
theorem concludeMove_eq (m : MoveReq) (k : Conclusion) (silent holdAsked : Bool) (s : State) :
    s.concludeMove m k silent holdAsked =
      (let t := ((s.recordConclusion m k).flagConclusion m.rescue (k.outside (s.allows m.conn)) silent k).setReq none
      let u := if m.rescue then t.rescueEmptied else t.planResult m.pos k.result
      if holdAsked ∧ u.isActive then u.issueHold u.conf.holdTime .darkConnection else u).arbitrate := by
  cases k <;> rfl

/-- A conclusion with the planner IDLE and no rescue done: nothing takes its results but the arbiter (R72, R60). -/
theorem concludeMove_of_idle {silent holdAsked : Bool} (hk : k ≠ .done) (hidle : s.planner.st = .idle)
    (hdone : s.engine.rescueDone = false) :
    s.concludeMove m k silent holdAsked =
      (let u := if k = .notReady ∧ m.rescue = true then s.concludedBy m k silent
        else (s.concludedBy m k silent).appendStranded m.conn
      if holdAsked ∧ u.isActive then u.issueHold u.conf.holdTime .darkConnection else u).arbitrate := by
  rw [concludeMove_eq, recordConclusion_flagged hk m silent s]
  dsimp only
  have hhanded (u : State) (hu : u.engine.rescueDone = false) (hp : u.planner.st = .idle) :
      (if m.rescue then u.rescueEmptied else u.planResult m.pos k.result) = u := by
    rw [rescueEmptied_self hu, planResult_self _ _ (by simp [hp]), ite_self]
  rw [hhanded]
  · split
    · exact hdone
    · rw [appendStranded_eq]
      exact hdone
  · split <;> simp [State.concludedBy, State.concluded, hidle]

end Sys2Proof.Machine


/-! What a FREE engine takes in ACTIVE (R60 to R63): the head of the rescue list, and with that list empty the plan's next position. -/

namespace Sys2Proof.Machine

variable {s t : State} {i : Nat}

/-! ### Looks of the arbiter (R60) -/

/-- With a request in flight the arbiter does not look. -/
theorem arbiter_busy (h : s.engine.req.isSome = true) (n : Nat) : s.arbiter n = s := by
  cases n with
  | zero => rfl
  | succ n => rw [State.arbiter, if_pos h]

/-- A look of a FREE engine in ACTIVE with no member due: the rescue list goes before the plan (R61). -/
theorem arbiter_succ (hmode : s.mode = .active) (hfree : s.engine.req = none) (hdue : s.dueMember = none) (n : Nat) :
    s.arbiter (n + 1) =
      match s.engine.rescue with
      | x :: _ => (s.takeRescue x).arbiter n
      | [] =>
        match s.offeredMove with
        | some (pos, mv) => (s.takePlanMove pos mv).arbiter n
        | none => s := by
  rw [State.arbiter, if_neg (by simp [hfree])]
  simp only [hmode, hdue] <;> rfl

/-! ### Rescue entries (R54, R55, R63) -/

theorem rescueEmptied_eq (s : State) : s.rescueEmptied = s.rescueOver := by
  unfold State.rescueEmptied State.rescueOver
  by_cases hc : s.engine.rescue = [] ∧ s.engine.rescueDone = true ∧ s.engine.rescueInFlight = false
  · rw [if_pos hc, if_pos hc]
    have hoffer (t : State) :
        t.offerLoad = { t with line := if t.mode = .active then Line.refresh t.pins.lcd { t.line with qLoad := some t.loadBody } else t.line } := by
      rw [State.offerLoad, State.offer]
      by_cases hm : t.mode = .active <;> simp [State.isActive, hm, State.modQueue]
    rw [hoffer]
    rfl
  · rw [if_neg hc, if_neg hc]

/-- The rescue list without its head. -/
def State.rescueTail (s : State) : State := { s with engine := { s.engine with rescue := s.engine.rescue.tail } }

theorem arbitrate_rescue {x : RescueEntry} {rest : List RescueEntry} (hmode : s.mode = .active) (hfree : s.engine.req = none)
    (hdue : s.dueMember = none) (hrescue : s.engine.rescue = x :: rest) :
    s.arbitrate = (s.takeRescue x).arbiter (rest.length + ((s.planner.plan.map (·.kept)).getD 0) + 1) := by
  have hlength : (x :: rest).length + ((s.planner.plan.map (·.kept)).getD 0)
      = rest.length + ((s.planner.plan.map (·.kept)).getD 0) + 1 := by
    rw [List.length_cons]
    omega
  rw [State.arbitrate, hrescue, hlength, arbiter_succ hmode hfree hdue, hrescue]

/-- An entry passed over: the arbiter looks again. -/
theorem arbitrate_rescue_passed {x : RescueEntry} {rest : List RescueEntry} (hmode : s.mode = .active) (hfree : s.engine.req = none)
    (hdue : s.dueMember = none) (hrescue : s.engine.rescue = x :: rest) {u : State} (htake : s.takeRescue x = u)
    (hlist : u.engine.rescue = rest) (hplanner : u.planner = s.planner) : s.arbitrate = u.arbitrate := by
  rw [arbitrate_rescue hmode hfree hdue hrescue, htake, State.arbitrate, hlist, hplanner]

theorem rescueOver_rescue (s : State) : s.rescueOver.engine.rescue = s.engine.rescue := by
  unfold State.rescueOver
  split <;> rfl

theorem rescueOver_planner (s : State) : s.rescueOver.planner = s.planner := by
  unfold State.rescueOver
  split <;> rfl

/-- The take check of a rescue entry (R54). -/
theorem rescueFrom_eq_some_iff {p : Phase} :
    s.rescueFrom i = some p ↔ s.attrOf i = .movable ∧ ((s.conn i).st = .steady ∨ (s.conn i).st = .resting)
      ∧ (s.conn i).cur = some p ∧ s.present p = false := by
  unfold State.rescueFrom
  split
  next hst =>
    simp only [Bool.and_eq_true, Bool.or_eq_true, beq_iff_eq] at hst
    split
    next q hq =>
      cases hpr : s.present q with
      | true =>
        simp only [if_true, reduceCtorEq, hst, hq, Option.some.injEq, true_and, false_iff, not_and, Bool.not_eq_false]
        rintro rfl
        exact hpr
      | false =>
        simp only [Bool.false_eq_true, if_false, Option.some.injEq, hst, hq, true_and]
        exact ⟨fun h => ⟨h, h ▸ hpr⟩, And.left⟩
    next hq => simp [hq]
  next hst =>
    simp only [Bool.and_eq_true, Bool.or_eq_true, beq_iff_eq] at hst
    simp only [reduceCtorEq, false_iff]
    exact fun h => hst ⟨h.1, h.2.1⟩

theorem foldl_lowerEstimate_keeps (x : Phase × Nat) (l : List (Phase × Nat)) (h : ∀ y ∈ l, x.2 ≤ y.2) :
    l.foldl lowerEstimate (some x) = some x := by
  induction l with
  | nil => rfl
  | cons y l ih =>
    have hy : lowerEstimate (some x) y = some x := if_neg (Nat.not_lt.mpr (h y List.mem_cons_self))
    rw [List.foldl_cons, hy]
    exact ih fun z hz => h z (List.mem_cons_of_mem _ hz)

/-- The first of the lowest estimates wins (R55). -/
theorem foldl_lowerEstimate_of_least {x : Phase × Nat} {l₁ l₂ : List (Phase × Nat)} (hbefore : ∀ y ∈ l₁, x.2 < y.2)
    (hafter : ∀ y ∈ l₂, x.2 ≤ y.2) : (l₁ ++ x :: l₂).foldl lowerEstimate none = some x := by
  have htaken : lowerEstimate (l₁.foldl lowerEstimate none) x = some x := by
    cases hl : l₁.foldl lowerEstimate none with
    | none => rfl
    | some y =>
      rcases foldl_lowerEstimate_mem _ _ hl with hy | hy
      · exact if_pos (hbefore y hy)
      · cases hy
  rw [List.foldl_append, List.foldl_cons, htaken, foldl_lowerEstimate_keeps x l₂ hafter]

/-- The rescue target is the able phase of the lowest estimate, the earlier one of equals (R55). -/
theorem rescueTarget_of_least {p q : Phase} {r : Int} {able : Phase → Bool} {estimate : Phase → Nat}
    (hable : ∀ y, (s.allows i y && s.present y && s.wayLimit s.meas.ways i y r) = able y)
    (hestimate : ∀ y, neutral (applyMove s.feederView p y r) = estimate y) (hq : able q = true)
    (hleast : ∀ y, able y = true → estimate q < estimate y ∨ (estimate q = estimate y ∧ (phaseCode q).toNat ≤ (phaseCode y).toNat)) :
    s.rescueTarget i p r = some q := by
  have hlist {l₁ l₂ : List Phase} (hsplit : Phase.all = l₁ ++ q :: l₂) (hbefore : ∀ y ∈ l₁, (phaseCode y).toNat < (phaseCode q).toNat) :
      ((Phase.all.filter able).map fun y => (y, estimate y)).foldl lowerEstimate none = some (q, estimate q) := by
    rw [hsplit, List.filter_append, List.filter_cons_of_pos hq, List.map_append, List.map_cons]
    refine foldl_lowerEstimate_of_least (fun z hz => ?_) fun z hz => ?_
    · obtain ⟨y, hy, rfl⟩ := List.mem_map.mp hz
      obtain ⟨hmem, hyable⟩ := List.mem_filter.mp hy
      have := hbefore y hmem
      rcases hleast y hyable with hlt | hle
      · exact hlt
      · omega
    · obtain ⟨y, hy, rfl⟩ := List.mem_map.mp hz
      rcases hleast y (List.mem_filter.mp hy).2 with hlt | hle
      · exact hlt.le
      · exact hle.1.le
  have hwon : ((Phase.all.filter able).map fun y => (y, estimate y)).foldl lowerEstimate none = some (q, estimate q) := by
    cases q with
    | A => exact hlist (l₁ := []) (l₂ := [.B, .C]) rfl (by simp)
    | B => exact hlist (l₁ := [.A]) (l₂ := [.C]) rfl (by simp [phaseCode])
    | C => exact hlist (l₁ := [.A, .B]) (l₂ := []) rfl (by simp [phaseCode])
  unfold State.rescueTarget
  simp only [hable, hestimate]
  rw [hwon]
  rfl

theorem rescueTarget_eq_none {p : Phase} {r : Int} (h : ∀ y, (s.allows i y && s.present y && s.wayLimit s.meas.ways i y r) = false) :
    s.rescueTarget i p r = none := by
  unfold State.rescueTarget
  simp [h]

/-! ### Plan moves (R52, R62) -/

/-- The candidate conditions, one by one (R44, R45). -/
theorem candidate_iff {ways : List Vec} {p q : Phase} :
    s.candidate ways i p q = true ↔
      s.configured i = true ∧ s.attrOf i = .movable ∧ (s.conn i).st = .steady ∧ (s.held i).saturated = false
        ∧ (s.held i).unmeasured = false ∧ s.conf.minMove ≤ (s.held i).value.natAbs ∧ (s.conn i).cur = some p ∧ s.present p = true
        ∧ p ≠ q ∧ s.allows i q = true ∧ s.present q = true
        ∧ ((wayVec ways (s.wayOf i)).get q + (s.held i).value).natAbs ≤ s.rating (s.wayOf i) := by
  simp only [State.candidate, State.wayLimit, Bool.and_eq_true, beq_iff_eq, bne_iff_ne, Bool.not_eq_true', decide_eq_true_eq, and_assoc]

/-- The move a plan offers: the first position below the kept count without a result (R61). -/
theorem offeredMove_of_first {p : Plan} {pos : Nat} {mv : Move} (hfree : s.engine.req = none) (hst : s.planner.st = .executing)
    (hplan : s.planner.plan = some p) (hkept : pos < p.kept) (hopen : p.results[pos]? = some none)
    (hbefore : ∀ j < pos, p.results[j]? ≠ some none) (hmove : p.moves[pos]? = some mv) : s.offeredMove = some (pos, mv) := by
  have hflight : s.planMoveInFlight = none := by simp [State.planMoveInFlight, hfree]
  have hfirst : ((List.range p.kept).find? fun k => p.results[k]? == some none) = some pos := by
    rw [List.find?_range_eq_some]
    exact ⟨by simp [hopen], List.mem_range.mpr hkept, fun j hj => by simpa using hbefore j hj⟩
  simp only [State.offeredMove, hplan]
  rw [if_pos ⟨hst, hflight⟩, hfirst]
  dsimp only
  rw [hmove]
  rfl

/-- A move offered stands at a position of the plan being executed that has no result. -/
theorem offeredMove_some {pos : Nat} {mv : Move} (h : s.offeredMove = some (pos, mv)) :
    s.planner.st = .executing ∧ ∃ p, s.planner.plan = some p ∧ pos < p.kept ∧ p.results[pos]? = some none := by
  unfold State.offeredMove at h
  split at h
  · cases h
  next p hplan =>
    split at h
    next hc =>
      split at h
      next k hk =>
        obtain ⟨m, -, hm⟩ := Option.map_eq_some_iff.mp h
        cases hm
        have hopen := List.find?_some hk
        exact ⟨hc.1, p, hplan, List.mem_range.mp (List.mem_of_find?_eq_some hk), by simpa using hopen⟩
      · cases h
    · cases h

/-- The positions below the kept count that a plan being executed has no result for. -/
def State.unsettled (s : State) : Finset Nat :=
  match s.planner.plan with
  | some p => if s.planner.st = .executing then (Finset.range p.kept).filter fun k => p.results[k]? = some none else ∅
  | none => ∅

theorem unsettled_of_plan {p : Plan} (hplan : s.planner.plan = some p) (hst : s.planner.st = .executing) :
    s.unsettled = (Finset.range p.kept).filter fun k => p.results[k]? = some none := by
  simp only [State.unsettled, hplan, if_pos hst]

theorem unsettled_of_not_executing (hst : s.planner.st ≠ .executing) : s.unsettled = ∅ := by
  unfold State.unsettled
  split
  · exact if_neg hst
  · rfl

theorem plannerIdle_st (s : State) : s.plannerIdle.planner.st = .idle := by
  unfold State.plannerIdle
  split <;> rfl

theorem concludePlan_unsettled (s : State) : s.concludePlan.unsettled ⊆ s.unsettled := by
  unfold State.concludePlan
  split
  · exact subset_rfl
  · split
    · rw [unsettled_of_not_executing (by simp [plannerIdle_st])]
      exact Finset.empty_subset _
    · exact subset_rfl

/-- A result settles its position (R143). -/
theorem planResult_unsettled {pos : Nat} {mv : Move} (h : s.offeredMove = some (pos, mv)) (r : MoveResult) :
    (s.planResult pos r).unsettled ⊂ s.unsettled := by
  obtain ⟨hst, p, hplan, hkept, hopen⟩ := offeredMove_some h
  simp only [State.planResult, hplan]
  rw [if_pos ⟨hst, hopen⟩]
  refine lt_of_le_of_lt (concludePlan_unsettled _) ?_
  have hset : (s.modPlanner fun q =>
      { q with plan := some { p with results := p.results.set pos (some r), concluded := p.concluded + 1 } }).unsettled
        = (Finset.range p.kept).filter fun k => (p.results.set pos (some r))[k]? = some none :=
    unsettled_of_plan (s := s.modPlanner fun q => { q with plan := some _ }) rfl hst
  rw [hset, unsettled_of_plan hplan hst]
  refine Finset.ssubset_iff_of_subset ?_ |>.mpr ⟨pos, ?_, ?_⟩
  · intro k hk
    simp only [Finset.mem_filter, Finset.mem_range, List.getElem?_set] at hk ⊢
    refine ⟨hk.1, ?_⟩
    have hresult := hk.2
    split at hresult
    · split at hresult <;> simp at hresult
    · exact hresult
  · simpa using ⟨hkept, hopen⟩
  · have hlength : pos < p.results.length := by
      by_contra hn
      simp [Nat.not_lt.mp hn] at hopen
    simp [hlength]

/-- With the rescue list empty, as many looks as there are positions without a result find all there is to take. -/
theorem arbiter_enough (n : Nat) (s : State) (hmode : s.mode = .active) (hdue : s.dueMember = none) (hrescue : s.engine.rescue = [])
    (hn : s.unsettled.card ≤ n) : s.arbiter (n + 1) = s.arbiter n := by
  induction n generalizing s with
  | zero =>
    by_cases hfree : s.engine.req = none
    · rw [arbiter_succ hmode hfree hdue, hrescue]
      dsimp only
      split
      next pos mv hoffer =>
        have := Finset.card_lt_card (planResult_unsettled hoffer .done)
        omega
      · rfl
    · rw [arbiter_busy (Option.isSome_iff_ne_none.mpr hfree), arbiter_busy (Option.isSome_iff_ne_none.mpr hfree)]
  | succ n ih =>
    by_cases hfree : s.engine.req = none
    · rw [arbiter_succ hmode hfree hdue, arbiter_succ hmode hfree hdue, hrescue]
      dsimp only
      split
      next pos mv hoffer =>
        unfold State.takePlanMove
        split
        · rw [arbiter_busy rfl, arbiter_busy rfl]
        · have := Finset.card_lt_card (planResult_unsettled hoffer .skipped)
          refine ih _ (by simpa [State.mode] using hmode) ?_ (by simpa using hrescue) (by omega)
          rw [← hdue]
          simp [State.dueMember, State.conn]
      · rfl
    · rw [arbiter_busy (Option.isSome_iff_ne_none.mpr hfree), arbiter_busy (Option.isSome_iff_ne_none.mpr hfree)]

/-- The looks of `arbitrate` are enough, and more make no difference. -/
theorem arbiter_eq_arbitrate (hmode : s.mode = .active) (hdue : s.dueMember = none) (hrescue : s.engine.rescue = []) (n : Nat)
    (hn : s.unsettled.card ≤ n) : s.arbiter n = s.arbitrate := by
  have hkept : s.unsettled.card ≤ (s.planner.plan.map (·.kept)).getD 0 := by
    unfold State.unsettled
    split
    next p hp =>
      split
      · exact (Finset.card_filter_le _ _).trans (by simp [hp])
      · simp
    · simp
  have hmore (k : Nat) : s.arbiter (s.unsettled.card + k) = s.arbiter s.unsettled.card := by
    induction k with
    | zero => rfl
    | succ k ih => rw [← ih, ← Nat.add_assoc, arbiter_enough _ s hmode hdue hrescue (by omega)]
  obtain ⟨a, ha⟩ := Nat.exists_eq_add_of_le hn
  obtain ⟨b, hb⟩ := Nat.exists_eq_add_of_le
    (show s.unsettled.card ≤ s.engine.rescue.length + (s.planner.plan.map (·.kept)).getD 0 + 1 by omega)
  rw [State.arbitrate, hb, ha, hmore, hmore]

end Sys2Proof.Machine

namespace Sys2Proof.Proofs
open Sys2Proof.Machine

/-- Settles O17: the arbiter's look, source by source; a plan move that is passed over leaves fewer, so the looks that remain suffice. -/
theorem arbiterTakesMoves : Obligations.ArbiterTakesMoves := by
  intro s hmode hfree hdue
  dsimp only
  refine ⟨fun p pos mv hrescue hst hplan hkept hopen hbefore hmove => ?_, fun x rest hrescue => ⟨fun hno => ?_, fun p hcalls hunable => ?_,
    fun p q hcalls hable hleast => ?_⟩⟩
  · have hoffer := offeredMove_of_first hfree hst hplan hkept hopen hbefore hmove
    have hlook : s.arbitrate = (s.takePlanMove pos mv).arbiter p.kept := by
      rw [State.arbitrate, hrescue, hplan, List.length_nil, Nat.zero_add]
      exact (arbiter_succ hmode hfree hdue p.kept).trans (by rw [hrescue, hoffer])
    have hskipped : s.dueMember = none → (s.planResult pos .skipped).dueMember = none := fun h => by
      rw [← h]
      simp [State.dueMember, State.conn]
    rw [hlook, State.takePlanMove]
    refine ⟨fun hpasses => ?_, fun hfails => ?_⟩
    · obtain ⟨h1, h2, h3, h4, h5, h6, h7, h8, h9, h10, h11, h12, hallow⟩ := hpasses
      have hcheck : s.moveCheck mv = true :=
        candidate_iff.mpr ⟨h1, h2, h3, h9, h10, h11, h4, h5, h6, h7, h8, of_decide_eq_true h12⟩
      rw [if_pos ⟨hcheck, hallow⟩, arbiter_busy rfl]
      rfl
    · have hcheck : ¬(s.moveCheck mv = true ∧ 1 ≤ s.allowance) := fun ⟨hcheck, hallow⟩ => by
        obtain ⟨h1, h2, h3, h9, h10, h11, h4, h5, h6, h7, h8, h12⟩ := candidate_iff.mp hcheck
        exact hfails ⟨h1, h2, h3, h4, h5, h6, h7, h8, h9, h10, h11, decide_eq_true h12, hallow⟩
      have hfewer : (s.planResult pos .skipped).unsettled.card ≤ p.kept := by
        have hless := Finset.card_lt_card (planResult_unsettled hoffer .skipped)
        rw [unsettled_of_plan hplan hst] at hless
        have hrange := Finset.card_filter_le (Finset.range p.kept) fun k => p.results[k]? = some none
        rw [Finset.card_range] at hrange
        omega
      rw [if_neg hcheck, arbiter_eq_arbitrate (by simpa [State.mode] using hmode) (hskipped hdue) (by simpa using hrescue) _ hfewer]
  all_goals
    obtain rfl : rest = s.engine.rescue.tail := by
      rw [hrescue]
      rfl
    have htake : s.takeRescue x = match s.rescueTail.rescueFrom x.conn with
        | none => s.rescueTail.rescueEmptied
        | some p =>
          match s.rescueTail.rescueTarget x.conn p x.cur with
          | none => (s.rescueTail.setFlag .rescueIncomplete).rescueEmptied
          | some q => s.rescueTail.takeMove ⟨true, x.conn, p, q, x.cur, 0, .arming, armCycles⟩ := rfl
  · have hnone : s.rescueTail.rescueFrom x.conn = none :=
      Option.eq_none_iff_forall_not_mem.mpr fun p hp => hno p (rescueFrom_eq_some_iff.mp hp)
    rw [hnone, rescueEmptied_eq] at htake
    exact arbitrate_rescue_passed hmode hfree hdue hrescue htake (rescueOver_rescue _) (rescueOver_planner _)
  · have hfrom : s.rescueTail.rescueFrom x.conn = some p := rescueFrom_eq_some_iff.mpr hcalls
    have htarget : s.rescueTail.rescueTarget x.conn p x.cur = none := rescueTarget_eq_none hunable
    simp only [hfrom, htarget, rescueEmptied_eq] at htake
    exact arbitrate_rescue_passed hmode hfree hdue hrescue htake (rescueOver_rescue _) (rescueOver_planner _)
  · have hfrom : s.rescueTail.rescueFrom x.conn = some p := rescueFrom_eq_some_iff.mpr hcalls
    have htarget : s.rescueTail.rescueTarget x.conn p x.cur = some q :=
      rescueTarget_of_least (fun _ => rfl) (fun _ => rfl) hable hleast
    simp only [hfrom, htarget] at htake
    rw [arbitrate_rescue hmode hfree hdue hrescue, htake, arbiter_busy rfl]
    rfl

end Sys2Proof.Proofs


/-! The answers and timeouts of a move in flight (R64 to R72), where nothing else waits. -/

namespace Sys2Proof.Machine

variable {s t : State} {m : MoveReq} {k : Conclusion}

/-! ### The rows of a request whose command is answered, or whose count is at its end (R57, R58) -/

theorem count_zero (r : Req) : r.count 0 = r := by cases r <;> rfl

/-- A count at its end, nothing left of it. -/
theorem expired_of {r : Req} (hreq : s.engine.req = some r) (hleft : r.left = 0) : s.expired = some (r, s) := by
  simp [State.expired, hreq, hleft, State.atCountEnd, count_zero]

theorem ready_move (path : Option Phase) (hreq : s.engine.req = some (.move m)) (hs : m.step = .arming) :
    s.ready m.conn path true = s.readyTaken m path := by
  rw [State.ready, answered_of (i := m.conn) hreq (outstanding_arming hs) rfl]
  exact if_pos hs

theorem notReady_move (hreq : s.engine.req = some (.move m)) (hs : m.step = .arming) :
    s.notReady m.conn true = s.concludeMove m .notReady false false := by
  rw [State.notReady, answered_of (i := m.conn) hreq (outstanding_arming hs) rfl]
  exact if_pos hs

theorem armTimeout_move (hreq : s.engine.req = some (.move m)) (hs : m.step = .arming) (hc : m.cycles = 0) :
    s.armTimeout = s.concludeMove m (.failedOn m.src) true false := by
  rw [State.armTimeout, expired_of hreq hc]
  exact if_pos hs

theorem opened_move (hreq : s.engine.req = some (.move m)) (hs : m.step = .breakSent) :
    s.opened m.conn true = (s.setCur m.conn none).enterGap m := by
  rw [State.opened, answered_of (i := m.conn) hreq (outstanding_breakSent hs) rfl]
  exact if_pos hs

theorem breakTimeout_move (hreq : s.engine.req = some (.move m)) (hs : m.step = .breakSent) (hc : m.cycles = 0) :
    s.breakTimeout = s.sendBreakQuery m := by
  rw [State.breakTimeout, expired_of hreq hc]
  exact if_pos hs

theorem nak_of {r : Req} {c : ModCmd} {i : Nat} (hreq : s.engine.req = some r) (hout : r.outstanding = some c) (hi : c.index = i) :
    s.nak i true = s.refused r := by
  rw [State.nak, answered_of hreq hout hi]

theorem closed_of {r : Req} {c : ModCmd} {i : Nat} (x : Phase) (hreq : s.engine.req = some r) (hout : r.outstanding = some c)
    (hi : c.index = i) : s.closed i x true = s.closedTaken r x := by
  rw [State.closed, answered_of hreq hout hi]

theorem queryAnswer_of {r : Req} {c : ModCmd} {i : Nat} (path : Option Phase) (hreq : s.engine.req = some r)
    (hout : r.outstanding = some c) (hi : c.index = i) : s.queryAnswer i path true = s.queryTaken r path := by
  rw [State.queryAnswer, answered_of hreq hout hi]

theorem closedTimeout_of {r : Req} {i : Nat} {p : Phase} (hreq : s.engine.req = some r) (hout : r.outstanding = some (.make i p))
    (hleft : r.left = 0) : s.closedTimeout = s.refused r := by
  rw [State.closedTimeout, expired_of hreq hleft]
  exact if_pos (by simp [Req.awaitsClosed, hout])

/-- A row of a powered station that changes it as `f` does. -/
theorem next_powered {f : State → State} {u : State} (hp : s.pins.pornLow = false) (h : f s = u) :
    (Host.Outcome.next (powered f s) : Host.Outcome State Fault Refusal) = .next u := by
  rw [powered_of_high _ hp, h]

/-! ### Conclusions where nothing else waits (R72) -/

/-- An own hold finds an IDLE planner nothing to give up (R131, R141). -/
theorem issueHold_idle {d : Nat} {r : Reason} (h : s.planner.st = .idle) :
    s.issueHold d r = (s.modPlanner fun p => { p with ownHold := max p.ownHold d }).offerHold d r := by
  have hheld := becomesHeld_idle (s := (s.modPlanner fun p => { p with ownHold := max p.ownHold d }).offerHold d r) (by simpa using h)
  rw [State.issueHold, hheld, ite_self, ite_self]

/-- A conclusion but DONE that strands no connection and leaves no member due: nothing takes its results. -/
theorem concludeMove_quiet {silent : Bool} (hk : k ≠ .done) (hmode : s.mode ≠ .inventory) (h : s.nothingElse m.conn = true)
    (hstay : (k = .notReady ∧ m.rescue = true) ∨ (s.concludedBy m k silent).stranded m.conn = [])
    (hdue : (((s.concludedBy m k silent).conn m.conn).member.all fun x => decide (0 < x.retry)) = true) :
    s.concludeMove m k silent false = s.concludedBy m k silent := by
  obtain ⟨-, -, hdone, hidle⟩ := nothingElse_iff.mp h
  have hkept : (if k = .notReady ∧ m.rescue = true then s.concludedBy m k silent
      else (s.concludedBy m k silent).appendStranded m.conn) = s.concludedBy m k silent := by
    rcases hstay with hn | hn
    · exact if_pos hn
    · rw [appendStranded_eq, hn, List.append_nil, ite_self]
  rw [concludeMove_of_idle hk hidle hdone, hkept]
  simp only [Bool.false_eq_true, false_and, if_false]
  exact arbitrate_nothingElse (concluded_nothingElse h _ _) hdue hmode

/-- What the changed record of `i` is bound to be, its change leaving no record as it is. -/
theorem concluded_stranded_nil {i : Nat} {f : Conn → Conn} {flags : BitVec 19}
    (h : ∀ x, (f (s.conn i)).cur = some x → (f (s.conn i)).st = .steady ∨ (f (s.conn i)).st = .resting → s.present x = true) :
    (s.concluded i f flags).stranded i = [] :=
  stranded_nil (conn_concluded_of (P := fun c => ∀ x, c.cur = some x → c.st = .steady ∨ c.st = .resting → s.present x = true) h
    fun _ hx => nomatch hx)

theorem concluded_not_due {i : Nat} {f : Conn → Conn} {flags : BitVec 19}
    (h : ((f (s.conn i)).member.all fun x => decide (0 < x.retry)) = true) :
    (((s.concluded i f flags).conn i).member.all fun x => decide (0 < x.retry)) = true :=
  conn_concluded_of (P := fun c => (c.member.all fun x => decide (0 < x.retry)) = true) h rfl

/-- FAILED, supplied on a phase: FAULTED there, with TRANSFER_FAILED (R27, R72). -/
theorem concludeMove_failedOn {x : Phase} (silent : Bool) (hmode : s.mode ≠ .inventory) (h : s.nothingElse m.conn = true)
    (hmember : (s.conn m.conn).member = none) :
    s.concludeMove m (.failedOn x) silent false =
      s.concluded m.conn (fun c => { c with note := none, st := .faulted, cur := some x }) ((if silent then 0x4 else 0) ||| 0x2) :=
  concludeMove_quiet (by simp) hmode h
    (.inr (concluded_stranded_nil fun y _ hst => by simp [Conn.conclude] at hst))
    (concluded_not_due (by simp [Conn.conclude, hmember]))

/-- The record of a connection that a move leaves DARK, no member of the recovery set before (R27, R29). -/
def Conn.leftDark (c : Conn) : Conn :=
  { c with note := none, st := .dark, cur := none, attempts := 0, member := some ⟨.recover, 10⟩ }

theorem concludedBy_failedDark (silent : Bool) (hmember : (s.conn m.conn).member = none) :
    s.concludedBy m .failedDark silent = s.concluded m.conn Conn.leftDark ((if silent then 0x4 else 0) ||| 0x3) := by
  have hconclude : Conn.conclude m.rescue s.conf.dwell (s.allows m.conn) .failedDark (s.conn m.conn) = (s.conn m.conn).leftDark := by
    simp [Conn.conclude, Conn.goDark, Conn.joinSet, Conn.leftDark, hmember, retryWait]
  exact concluded_congr hconclude _

theorem leftDark_stranded (i : Nat) (flags : BitVec 19) (s : State) : (s.concluded i Conn.leftDark flags).stranded i = [] :=
  concluded_stranded_nil fun _ hx => nomatch hx

/-- FAILED, not supplied: DARK, with TRANSFER_FAILED and CONNECTION_DARK, and a recovery after 10 s (R27, R29, R72). -/
theorem concludeMove_failedDark (silent : Bool) (hmode : s.mode ≠ .inventory) (h : s.nothingElse m.conn = true)
    (hmember : (s.conn m.conn).member = none) :
    s.concludeMove m .failedDark silent false = s.concluded m.conn Conn.leftDark ((if silent then 0x4 else 0) ||| 0x3) := by
  rw [concludeMove_quiet (by simp) hmode h, concludedBy_failedDark silent hmember]
  · rw [concludedBy_failedDark silent hmember]
    exact .inr (leftDark_stranded _ _ _)
  · rw [concludedBy_failedDark silent hmember]
    exact concluded_not_due rfl

/-- FAILED, not supplied, with the HOLD that a failed FALLBACK asks for (R69, R131). -/
theorem failFallback_quiet (hmode : s.mode = .active) (h : s.nothingElse m.conn = true) (hmember : (s.conn m.conn).member = none) :
    s.failFallback m =
      { s.concluded m.conn Conn.leftDark 0x3 with
        planner := { s.planner with ownHold := max s.planner.ownHold s.conf.holdTime }
        line := Line.refresh s.pins.lcd
          { s.line with qHold := some (mergeHold s.line.qHold ⟨s.conf.holdTime, .darkConnection⟩) } } := by
  obtain ⟨-, -, hdone, hidle⟩ := nothingElse_iff.mp h
  have hactive : (s.concluded m.conn Conn.leftDark 0x3).isActive = true := by
    change (s.mode == .active) = true
    rw [hmode]
    rfl
  have hrecorded : (if Conclusion.failedDark = .notReady ∧ m.rescue = true then s.concludedBy m .failedDark false
      else (s.concludedBy m .failedDark false).appendStranded m.conn) = s.concluded m.conn Conn.leftDark 0x3 := by
    rw [if_neg (by simp), concludedBy_failedDark false hmember, appendStranded_eq, leftDark_stranded, List.append_nil]
    rfl
  rw [State.failFallback, concludeMove_of_idle (by simp) hidle hdone, hrecorded]
  dsimp only
  rw [if_pos ⟨rfl, hactive⟩, issueHold_idle (by exact hidle), State.offerHold, State.offer, if_pos (by exact hactive)]
  refine arbitrate_nothingElse (i := m.conn) ?_ ?_ fun hm => nomatch hmode.symm.trans hm
  · exact nothingElse_of (concluded_nothingElse h Conn.leftDark 0x3) (fun _ _ => rfl) rfl rfl rfl
  · exact concluded_not_due (s := s) (f := Conn.leftDark) (flags := 0x3) rfl

/-! ### FALLBACK (R66 to R68) -/

theorem enterFallback_target {p : Phase} (h : s.fallbackTarget m = some p) :
    s.enterFallback m = { s with engine := { s.engine with req := some (.move { m with step := .fbWait p, cycles := 2 }) } } := by
  rw [State.enterFallback, h]
  rfl

theorem fallbackTarget_other (h : m.rescue = true ∨ s.present m.src = false) : s.fallbackTarget m = s.otherTarget m := by
  rw [State.fallbackTarget, if_neg]
  · rfl
  · rcases h with h | h <;> simp [h]

/-- The connection of a move at the entry to FALLBACK: with no current phase where BREAK or its QUERY found none (R23, R65). -/
def State.fallen (s : State) (m : MoveReq) : State :=
  if m.step = .breakSent ∨ m.step = .breakQuery then s.setCur m.conn none else s

/-- Every way into FALLBACK. -/
theorem exec_fallsBack {c : Instr} (hp : s.pins.pornLow = false) (hreq : s.engine.req = some (.move m))
    (h : m.fallsBackAt s.present c) : exec c s = .next ((s.fallen m).enterFallback m) := by
  rcases h with ⟨rfl, hs, hc⟩ | ⟨rfl, hs⟩ | ⟨rfl, hs, hc⟩ | ⟨rfl, hs, hlost⟩ | ⟨rfl, hs⟩
  · refine next_powered hp (f := State.gapLimit) ?_
    rw [State.gapLimit, expired_of hreq hc, State.fallen, if_neg (by simp [hs])]
    exact if_pos hs
  · refine next_powered hp ((nak_of hreq (outstanding_making hs) rfl).trans ?_)
    rw [State.fallen, if_neg (by simp [hs])]
    simp only [State.refused, hs]
  · refine next_powered hp ((closedTimeout_of hreq (outstanding_making hs) hc).trans ?_)
    rw [State.fallen, if_neg (by simp [hs])]
    simp only [State.refused, hs]
  · refine next_powered hp ((opened_move hreq hs).trans ?_)
    rw [State.fallen, if_pos (.inl hs), State.enterGap, if_neg]
    exact fun h => Bool.false_ne_true (hlost.symm.trans h)
  · refine next_powered hp ((queryAnswer_of none hreq (outstanding_breakQuery hs) rfl).trans ?_)
    rw [State.fallen, if_pos (.inr hs)]
    simp only [State.queryTaken, hs]

/-- The choice of a target does not look at the connection's current phase. -/
theorem fallen_fallbackTarget (s : State) (m : MoveReq) : (s.fallen m).fallbackTarget m = s.fallbackTarget m := by
  unfold State.fallen
  split <;> rfl

theorem fallen_eq (s : State) (m : MoveReq) :
    s.fallen m = { s with
      conns := if m.step = .breakSent ∨ m.step = .breakQuery then s.conns.modify m.conn fun x => { x with cur := none } else s.conns } := by
  unfold State.fallen
  split <;> rfl

end Sys2Proof.Machine

namespace Sys2Proof.Proofs
open Sys2Proof.Machine

/-- Settles O18: READY is taken in ARMING, the start counted, and BREAKING entered. -/
theorem readyBeginsTheTransfer : Obligations.ReadyBeginsTheTransfer := by
  intro m s hp hreq hs
  dsimp only
  refine next_powered hp ((ready_move (some m.src) hreq hs).trans ?_)
  have hstart : s.readyTaken m (some m.src) = (if m.rescue then s else s.budgetStart).enterBreaking m := if_pos rfl
  have henter (u : State) (hphases : u.phases = s.phases) (hengine : u.engine = s.engine) (hout : u.out = s.out) :
      u.enterBreaking m =
        if s.present m.src then
          { u with engine := { s.engine with req := some (.move { m with step := .breakWait, cycles := 0 }) } }
        else
          { u with
            engine := { s.engine with req := some (.move { m with step := .breakSent, cycles := 3 }) }
            out := .command (.break m.conn) :: s.out } := by
    have hpresent : u.present m.src = s.present m.src := congrArg (fun x => (x.get m.src).present) hphases
    rw [State.enterBreaking, hpresent, ← hengine, ← hout]
    rfl
  rw [hstart, henter]
  · rfl
  all_goals split <;> simp

/-- Settles O21: by the step, BREAK sent or the QUERY after it. -/
theorem breakIsAnswered : Obligations.BreakIsAnswered := by
  intro m s hp hreq
  dsimp only
  refine ⟨fun hs => ⟨fun hpresent => ?_, ?_, fun hc => ?_⟩, fun hs hmode hmember hquiet => ⟨fun x => ?_, fun hc => ?_⟩⟩
  · refine next_powered hp ((opened_move hreq hs).trans ?_)
    rw [State.enterGap, if_pos (by exact hpresent)]
    rfl
  · refine next_powered hp ((nak_of hreq (outstanding_breakSent hs) rfl).trans ?_)
    simp only [State.refused, hs]
    rfl
  · exact next_powered hp (breakTimeout_move hreq hs hc)
  · refine next_powered hp ((queryAnswer_of (some x) hreq (outstanding_breakQuery hs) rfl).trans ?_)
    simp only [State.queryTaken, hs]
    exact concludeMove_failedOn false (by simp [hmode]) hquiet hmember
  · refine next_powered hp (f := State.queryTimeout) ?_
    rw [State.queryTimeout, expired_of hreq hc]
    simp only [hs, if_true]
    exact concludeMove_failedDark true (by simp [hmode]) hquiet hmember

/-- Settles O23: CLOSED to the MAKE of MAKING or of FALLBACK. -/
theorem closedSettlesOrFails : Obligations.ClosedSettlesOrFails := by
  intro m x s hp hreq
  refine ⟨fun hs hx hfresh => ?_, fun hcase hrescue hmode hmember hquiet => ?_⟩
  · refine next_powered hp ((closed_of x hreq (outstanding_making hs) rfl).trans ?_)
    simp only [State.closedTaken, hs, hx, if_true]
    rw [State.enterSettling, if_pos (by exact hfresh)]
    rfl
  · have hclosed : s.closed m.conn x true = s.concludeMove m (.failedOn x) false false := by
      rcases hcase with ⟨hs, hx⟩ | ⟨t, hs⟩
      · rw [closed_of (i := m.conn) x hreq (outstanding_making hs) rfl]
        simp only [State.closedTaken, hs, hx, if_false]
      · rw [closed_of (i := m.conn) x hreq (outstanding_fbMake hs) rfl]
        simp only [State.closedTaken, hs]
    exact next_powered hp (hclosed.trans (concludeMove_failedOn false (by simp [hmode]) hquiet hmember))

/-- Settles O22: every way into FALLBACK, and the target chosen there. -/
theorem fallbackTargetIsChosen : Obligations.FallbackTargetIsChosen := by
  intro c m t s hp hreq hfalls htarget
  have hchosen : (s.fallen m).fallbackTarget m = some t := by
    rw [fallen_fallbackTarget]
    rcases htarget with ⟨hbalancing, hpresent, rfl⟩ | ⟨hother, hfind⟩
    · rw [State.fallbackTarget, if_pos (by simp [hbalancing, hpresent])]
    · rw [fallbackTarget_other hother]
      exact hfind
  rw [exec_fallsBack hp hreq hfalls, enterFallback_target hchosen, fallen_eq]

/-- Settles O25: the end of the wait or of the MAKE, or no target at the entry, fails FALLBACK. -/
theorem failedFallbackLeavesDark : Obligations.FailedFallbackLeavesDark := by
  intro c m t s hp hreq hfails hrescue hmode hmember hquiet
  have hrow : exec c s = .next (s.failFallback m) ∨ exec c s = .next ((s.setCur m.conn none).failFallback m) := by
    rcases hfails with ⟨rfl, hs, hc⟩ | ⟨rfl, hs, hc⟩ | ⟨rfl, hs⟩ | ⟨hfalls, hnone⟩
    · refine .inl (next_powered hp (f := State.fallbackWaitLimit) ?_)
      rw [State.fallbackWaitLimit, expired_of hreq hc]
      simp only [hs]
    · refine .inl (next_powered hp ((closedTimeout_of hreq (outstanding_fbMake hs) hc).trans ?_))
      simp only [State.refused, hs]
    · refine .inl (next_powered hp ((nak_of hreq (outstanding_fbMake hs) rfl).trans ?_))
      simp only [State.refused, hs]
    · have hfallen : (s.fallen m).enterFallback m = (s.fallen m).failFallback m := by
        rw [State.enterFallback, fallen_fallbackTarget, fallbackTarget_other (.inl hrescue), hnone]
      rw [exec_fallsBack hp hreq hfalls, hfallen, State.fallen]
      by_cases hs : m.step = .breakSent ∨ m.step = .breakQuery
      · exact .inr (by rw [if_pos hs])
      · exact .inl (by rw [if_neg hs])
  rcases hrow with hrow | hrow
  · rw [hrow, failFallback_quiet hmode hquiet hmember]
    rfl
  · have hopened : ((s.setCur m.conn none).conn m.conn).member = none := by
      rw [State.setCur, conn_modConn]
      split <;> exact hmember
    rw [hrow, failFallback_quiet (s := s.setCur m.conn none) (by simpa [State.mode] using hmode)
      (nothingElse_of hquiet (fun _ hj => conn_modConn_of_ne hj _) rfl rfl rfl) hopened]
    have hconns : (s.setCur m.conn none).conns.modify m.conn Conn.leftDark = s.conns.modify m.conn Conn.leftDark := by
      rw [State.setCur, State.modConn_conns, List.modify_modify_eq]
      rfl
    rw [State.concluded, hconns]
    rfl

end Sys2Proof.Proofs


/-! The conclusions that hand something on: a connection left on a LOST phase, a rescue or a plan at its end (R72, R76, R78, R143). -/

namespace Sys2Proof.Machine

variable {s t : State} {m : MoveReq} {i : Nat}

theorem dueMember_congr (h : ∀ j, (t.conn j).member = (s.conn j).member) : t.dueMember = s.dueMember := by
  simp only [State.dueMember, h]

theorem dueMember_of_nothingElse (h : s.nothingElse i = true) (hi : ((s.conn i).member.all fun k => decide (0 < k.retry)) = true) :
    s.dueMember = none :=
  dueMember_eq_none fun j hj => by
    by_cases hij : j = i
    · exact hij ▸ hi
    · exact noOtherDue_iff.mp (nothingElse_iff.mp h).1 j hj hij

/-! ### A connection left on a LOST phase (R76) -/

theorem stranded_of_not_movable (h : s.attrOf i ≠ .movable) : s.stranded i = [] := by
  unfold State.stranded
  split
  · exact if_neg fun hc => h hc.1.2.1
  · rfl

/-- Its held reading goes into the entry; the pre-move value that the conclusion drops is not part of it. -/
theorem held_concluded (f : Conn → Conn) (flags : BitVec 19) (i j : Nat) (s : State) :
    ((s.concluded i f flags).held j).value = (s.held j).value := by
  change ((s.meas.held.modify i _).getD j _).value = _
  rw [State.held, List.getD_eq_getElem?_getD, List.getD_eq_getElem?_getD, List.getElem?_modify]
  cases s.meas.held[j]? with
  | none => rfl
  | some h => by_cases hij : i = j <;> simp [hij]

theorem stranded_concluded {f : Conn → Conn} {flags : BitVec 19} {x : Phase} (hmode : s.mode = .active)
    (hcur : ((s.concluded i f flags).conn i).cur = some x)
    (hst : ((s.concluded i f flags).conn i).st = .steady ∨ ((s.concluded i f flags).conn i).st = .resting) :
    (s.concluded i f flags).stranded i =
      if s.present x = false ∧ s.attrOf i = .movable ∧ s.engine.lists i = false then [⟨i, (s.held i).value, x⟩] else [] := by
  have hactive : (s.concluded i f flags).isActive = true := by
    change (s.mode == .active) = true
    rw [hmode]
    rfl
  unfold State.stranded
  rw [hcur]
  dsimp only
  rw [held_concluded]
  refine if_congr ?_ rfl rfl
  constructor
  · rintro ⟨⟨-, hattr, -, hlost⟩, hlist⟩
    exact ⟨hlost, hattr, hlist⟩
  · rintro ⟨hlost, hattr, hlist⟩
    exact ⟨⟨hactive, hattr, hst, hlost⟩, hlist⟩

/-- The record of a connection found elsewhere by its READY (R26, R64). -/
def Conn.foundAt (r : Phase) (allowed : Bool) (c : Conn) : Conn :=
  { c with note := none, cur := some r, st := if allowed then if 0 < c.dwell then .resting else .steady else .faulted }

theorem concludedBy_skippedOn (s : State) (m : MoveReq) (r : Phase) :
    s.concludedBy m (.skippedOn r) false =
      s.concluded m.conn (Conn.foundAt r (s.allows m.conn r)) (if s.allows m.conn r then 0 else 0x2) := by
  have hflags : conclusionFlags m.rescue (Conclusion.outside (s.allows m.conn) (.skippedOn r)) false (.skippedOn r)
      = if s.allows m.conn r then 0 else 0x2 := by
    cases hr : s.allows m.conn r <;> simp [conclusionFlags, Conclusion.outside, hr]
  rw [State.concludedBy, hflags]
  rfl

theorem foundAt_stranded {r : Phase} {allowed : Bool} {flags : BitVec 19}
    (h : allowed = false ∨ s.present r = true ∨ s.attrOf i ≠ .movable) : (s.concluded i (Conn.foundAt r allowed) flags).stranded i = [] := by
  rcases h with rfl | h | h
  · exact concluded_stranded_nil fun _ _ hst => by simp [Conn.foundAt] at hst
  · refine concluded_stranded_nil fun x hx _ => ?_
    obtain rfl : r = x := by simpa [Conn.foundAt] using hx
    exact h
  · exact stranded_of_not_movable h

/-- A conclusion that asks for no HOLD, with the planner IDLE: the arbiter looks, a stranded connection listed (R72, R76). -/
theorem concludeMove_stranded {k : Conclusion} {silent : Bool} (hk : k ≠ .done) (hn : k ≠ .notReady) (hidle : s.planner.st = .idle)
    (hdone : s.engine.rescueDone = false) :
    s.concludeMove m k silent false = State.arbitrate
      { s.concludedBy m k silent with
        engine := { s.engine with req := none, rescue := s.engine.rescue ++ (s.concludedBy m k silent).stranded m.conn } } := by
  have hrecorded : (if k = .notReady ∧ m.rescue = true then s.concludedBy m k silent
      else (s.concludedBy m k silent).appendStranded m.conn) = _ := (if_neg fun h => hn h.1).trans (appendStranded_eq _ _)
  rw [concludeMove_of_idle hk hidle hdone, hrecorded]
  simp only [Bool.false_eq_true, false_and, if_false]
  rfl

/-- A rescue entry for an index without a record is passed over. -/
theorem arbitrate_entry_of_no_record {e : RescueEntry} (hmode : s.mode = .active) (hfree : s.engine.req = none)
    (h : s.nothingElse e.conn = true) (hi : s.conns.length ≤ e.conn) :
    State.arbitrate { s with engine := { s.engine with rescue := [e] } } = s := by
  obtain ⟨-, hempty, hdone, hidle⟩ := nothingElse_iff.mp h
  have hnotDue : ((s.conn e.conn).member.all fun k => decide (0 < k.retry)) = true := by
    rw [conn_of_le hi]
    rfl
  have hdue := dueMember_of_nothingElse h hnotDue
  have hnone : s.rescueFrom e.conn = none :=
    Option.eq_none_iff_forall_not_mem.mpr fun p hp => by
      have hcur := (rescueFrom_eq_some_iff.mp hp).2.2.1
      rw [conn_of_le hi] at hcur
      cases hcur
  have hpassed : State.takeRescue e { s with engine := { s.engine with rescue := [e] } } = s := by
    have htail : { s with engine := { s.engine with rescue := [] } } = s := by rw [← hempty]
    have hfrom : State.rescueFrom { s with engine := { s.engine with rescue := [] } } e.conn = none := hnone
    change (match State.rescueFrom { s with engine := { s.engine with rescue := [] } } e.conn with
      | none => State.rescueEmptied { s with engine := { s.engine with rescue := [] } }
      | some p => _) = _
    rw [hfrom]
    dsimp only
    rw [htail]
    exact rescueEmptied_self hdone
  have hlook := arbitrate_rescue_passed (s := { s with engine := { s.engine with rescue := [e] } }) (rest := []) hmode hfree hdue rfl
    hpassed hempty rfl
  rw [hlook]
  exact arbitrate_nothingElse h hnotDue (by simp [hmode])

/-- A rescue move SKIPPED on another path, which a LOST phase makes the next rescue (R64, R72, R76). An index without a record has none,
and the entry listed for it is passed over. -/
theorem concludeMove_skippedOn {r : Phase} (hmode : s.mode = .active) (h : s.nothingElse m.conn = true)
    (hmember : (s.conn m.conn).member = none) :
    s.concludeMove m (.skippedOn r) false false =
      let t := s.concluded m.conn (Conn.foundAt r (s.allows m.conn r)) (if s.allows m.conn r then 0 else 0x2)
      if s.allows m.conn r = true ∧ s.present r = false ∧ s.attrOf m.conn = .movable then
        State.arbitrate { t with engine := { t.engine with rescue := [⟨m.conn, (s.held m.conn).value, r⟩] } }
      else t := by
  have hnotInventory : s.mode ≠ .inventory := by simp [hmode]
  obtain ⟨-, hempty, hdone, hidle⟩ := nothingElse_iff.mp h
  have hby := concludedBy_skippedOn s m r
  have hdue : (((s.concludedBy m (.skippedOn r) false).conn m.conn).member.all fun x => decide (0 < x.retry)) = true := by
    rw [hby]
    exact concluded_not_due (by simp [Conn.foundAt, hmember])
  dsimp only
  by_cases hc : s.allows m.conn r = true ∧ s.present r = false ∧ s.attrOf m.conn = .movable
  · obtain ⟨hallowed, hlost, hattr⟩ := hc
    rw [if_pos ⟨hallowed, hlost, hattr⟩]
    rw [concludeMove_stranded (by simp) (by simp) hidle hdone]
    by_cases hi : m.conn < s.conns.length
    · have hconn : (s.concluded m.conn (Conn.foundAt r (s.allows m.conn r)) (if s.allows m.conn r then 0 else 0x2)).conn m.conn
          = (s.conn m.conn).foundAt r (s.allows m.conn r) := conn_modConn_self hi _
      have hst : ((s.conn m.conn).foundAt r (s.allows m.conn r)).st = .steady
          ∨ ((s.conn m.conn).foundAt r (s.allows m.conn r)).st = .resting := by
        simp only [Conn.foundAt, hallowed, if_true]
        split <;> simp
      have hentry := (stranded_concluded (x := r) hmode (congrArg Conn.cur hconn) (by rwa [hconn])).trans
        (if_pos ⟨hlost, hattr, by simp [Engine.lists, hempty]⟩)
      rw [hby, hentry, hempty]
      rfl
    · have hnone : (s.concludedBy m (.skippedOn r) false).stranded m.conn = [] := by
        refine stranded_nil fun x hx => ?_
        rw [hby, conn_of_le (by simpa [State.concluded] using hi)] at hx
        cases hx
      have hquiet := concluded_nothingElse h (Conn.foundAt r (s.allows m.conn r)) (if s.allows m.conn r then 0 else 0x2)
      rw [hby] at hdue
      rw [hnone, List.append_nil, hby]
      exact (arbitrate_nothingElse hquiet hdue hnotInventory).trans
        (arbitrate_entry_of_no_record (s := s.concluded m.conn _ _) (e := ⟨m.conn, (s.held m.conn).value, r⟩) hmode rfl hquiet
          (by simpa [State.concluded] using hi)).symm
  · rw [if_neg hc, concludeMove_quiet (by simp) hnotInventory h (.inr ?_) hdue, hby]
    rw [hby]
    refine foundAt_stranded ?_
    by_contra hn
    push Not at hn
    exact hc ⟨by simpa using hn.1, by simpa using hn.2.1, hn.2.2⟩

/-! ### A plan's result (R143, R145) -/

/-- The planner's return to IDLE in ACTIVE, with the number last concluded (R127). -/
theorem plannerIdle_active (hmode : s.mode = .active) (l : Option Byte) :
    (s.modPlanner fun q => { q with last := l }).plannerIdle = s.plannerRests l := by
  have hactive : (s.modPlanner fun q => { q with last := l }).isActive = true := by
    change (s.mode == .active) = true
    rw [hmode]
    rfl
  rw [State.plannerIdle, if_pos hactive]
  rfl

/-- A plan with every position settled concludes: an OUTCOME COMPLETED, PLAN_CONCLUDED, and the planner at rest (R96, R145). -/
theorem concludePlan_settled {p : Plan} (hmode : s.mode = .active) (hst : s.planner.st = .executing) (hplan : s.planner.plan = some p)
    (hflight : s.planMoveInFlight = none) (hall : p.results.all (·.isSome) = true) :
    s.concludePlan =
      { s.plannerRests (some s.planner.intentNo) with
        flags := s.flags ||| BitVec.twoPow 19 17
        line := Line.refresh s.pins.lcd
          { s.line with
            qOutcome := some
              ⟨s.planner.intentNo, true, p.results.map (·.getD .skipped), if s.meas.fresh then none else some s.meas.vec⟩ } } := by
  have hactive : s.isActive = true := by simp [State.isActive, hmode]
  have hoffer : s.offerOutcome s.planner.intentNo true p.reported = s.modQueue fun l =>
      { l with qOutcome := some ⟨s.planner.intentNo, true, p.reported, if true && s.meas.fresh then none else some s.meas.vec⟩ } := by
    rw [State.offerOutcome, State.offer, if_pos hactive]
  simp only [State.concludePlan, hplan]
  rw [if_pos ⟨hst, hall, hflight⟩, hoffer, hactive]
  exact plannerIdle_active (s := (s.modQueue _).setFlag .planConcluded) hmode (some s.planner.intentNo)

/-- The result of the move in flight, with the engine FREE: it settles its position, and the last one concludes the plan. -/
theorem planResult_of {p : Plan} {pos : Nat} {r : MoveResult} (hmode : s.mode = .active) (hst : s.planner.st = .executing)
    (hplan : s.planner.plan = some p) (hfree : s.engine.req = none) (hopen : p.results[pos]? = some none) :
    s.planResult pos r =
      if (p.results.set pos (some r)).all (·.isSome) then
        { s.plannerRests (some s.planner.intentNo) with
          flags := s.flags ||| BitVec.twoPow 19 17
          line := Line.refresh s.pins.lcd
            { s.line with
              qOutcome := some ⟨s.planner.intentNo, true, (p.results.set pos (some r)).map (·.getD .skipped),
                if s.meas.fresh then none else some s.meas.vec⟩ } }
      else
        { s with
          planner := { s.planner with plan := some { p with results := p.results.set pos (some r), concluded := p.concluded + 1 } } } := by
  simp only [State.planResult, hplan]
  rw [if_pos ⟨hst, hopen⟩]
  by_cases hall : (p.results.set pos (some r)).all (·.isSome) = true
  · rw [if_pos hall]
    exact concludePlan_settled
      (s := s.modPlanner fun q => { q with plan := some { p with results := p.results.set pos (some r), concluded := p.concluded + 1 } })
      hmode hst rfl (by simp [State.planMoveInFlight, hfree]) hall
  · rw [if_neg hall]
    exact if_neg fun h => hall h.2.1

/-! ### DONE (R70, R72, R78) -/

theorem endSettling_settling (hreq : s.engine.req = some (.move m)) (hs : m.step = .settling) :
    s.endSettling = s.concludeMove m .done false false := by
  rw [State.endSettling, hreq]
  exact if_pos hs

theorem endSettling_self (h : (s.engine.req.all fun r => !r.settles) = true) : s.endSettling = s := by
  unfold State.endSettling
  split
  next m hr =>
    simp only [hr, Option.all_some, Req.settles, Bool.not_eq_true', beq_eq_false_iff_ne] at h
    exact if_neg h
  all_goals rfl

/-- A move DONE in ACTIVE, before its results are handed on. -/
theorem recordConclusion_done (hmode : s.mode = .active) (m : MoveReq) :
    ((s.recordConclusion m .done).flagConclusion m.rescue (Conclusion.done.outside (s.allows m.conn)) false .done).setReq none =
      { s.concludedBy m .done false with
        engine :=
          { s.engine with
            req := none
            rescue := s.engine.rescue ++ (s.concludedBy m .done false).stranded m.conn
            rescueDone := s.engine.rescueDone || m.rescue } } := by
  have hactive : s.isActive = true := by simp [State.isActive, hmode]
  have hnotSkipped : ¬(Conclusion.done = .notReady ∧ m.rescue = true) := by simp
  rw [flagConclusion_eq, State.recordConclusion]
  dsimp only
  rw [if_neg hnotSkipped, appendStranded_eq]
  cases hr : m.rescue with
  | true =>
    rw [if_pos ⟨rfl, rfl, by exact hactive⟩]
    simp only [Bool.or_true, State.concludedBy, hr]
    rfl
  | false =>
    rw [if_neg (fun h => Bool.false_ne_true h.2.1)]
    simp only [Bool.or_false, State.concludedBy, hr]
    rfl

end Sys2Proof.Machine

namespace Sys2Proof.Proofs
open Sys2Proof.Machine

/-- Settles O19: each answer to ARM, and its absence, as the conclusion it brings. -/
theorem armAnswerConcludesRescue : Obligations.ArmAnswerConcludesRescue := by
  intro m s hp hreq hs hrescue hmode hmember hquiet
  have hnotInventory : s.mode ≠ .inventory := by simp [hmode]
  dsimp only
  refine ⟨?_, ?_, fun r hr => ?_, fun hc => ?_⟩
  · refine next_powered hp ((notReady_move hreq hs).trans ((concludeMove_quiet (by simp) hnotInventory hquiet (.inl ⟨rfl, hrescue⟩)
      (concluded_not_due (by simp [Conn.conclude, hmember]))).trans ?_))
    have hflags : conclusionFlags true (Conclusion.notReady.outside (s.allows m.conn)) false .notReady = 0x01000 := by
      simp [conclusionFlags]
    rw [State.concludedBy, hrescue, hflags]
    rfl
  · exact next_powered hp ((ready_move none hreq hs).trans (concludeMove_failedDark false hnotInventory hquiet hmember))
  · refine next_powered hp ((ready_move (some r) hreq hs).trans ((if_neg hr).trans ?_))
    exact concludeMove_skippedOn hmode hquiet hmember
  · exact next_powered hp ((armTimeout_move hreq hs hc).trans (concludeMove_failedOn true hnotInventory hquiet hmember))

/-- Settles O20: the only position of the plan gets its result, and the plan concludes. -/
theorem skippedMoveConcludesThePlan : Obligations.SkippedMoveConcludesThePlan := by
  intro m mv s hp hreq hs hbalancing hpos hst hplan hmode hfresh hcur hpresent hdue hrescue
  dsimp only
  have hskipped {k : Conclusion} {f : Conn → Conn} {flags : BitVec 19} (hk : k = .notReady ∨ ∃ r, k = .skippedOn r)
      (hby : s.concludedBy m k false = s.concluded m.conn f flags) (hmember : ∀ c : Conn, (f c).member = c.member)
      (hstay : (s.concluded m.conn f flags).stranded m.conn = []) :
      s.concludeMove m k false false =
        { s.plannerRests (some s.planner.intentNo) with
          conns := s.conns.modify m.conn f
          meas := { s.meas with held := s.meas.held.modify m.conn fun h => { h with preMove := none } }
          engine := { s.engine with req := none }
          flags := s.flags ||| flags ||| BitVec.twoPow 19 17
          line := Line.refresh s.pins.lcd
            { s.line with qOutcome := some ⟨s.planner.intentNo, true, [.skipped], none⟩ } } := by
    have hnotDone : k ≠ .done := by rcases hk with rfl | ⟨r, rfl⟩ <;> simp
    have hresult : k.result = .skipped := by rcases hk with rfl | ⟨r, rfl⟩ <;> rfl
    have hrecorded : (if k = .notReady ∧ m.rescue = true then s.concludedBy m k false
        else (s.concludedBy m k false).appendStranded m.conn) = s.concluded m.conn f flags := by
      rw [if_neg (by simp [hbalancing]), appendStranded_eq, hby, hstay, List.append_nil]
    have hhanded := (planResult_of (s := s.concluded m.conn f flags) (pos := 0) (r := .skipped) hmode hst hplan rfl rfl).trans
      (if_pos rfl)
    rw [concludeMove_eq, recordConclusion_flagged hnotDone, hrecorded, hresult, hpos, hbalancing]
    simp only [Bool.false_eq_true, false_and, if_false]
    have hfresh' : (s.concluded m.conn f flags).meas.fresh = true := hfresh
    rw [hhanded, hfresh', if_pos rfl]
    refine arbitrate_idle (fun hm => nomatch hmode.symm.trans hm) ((dueMember_congr fun j => ?_).trans hdue) hrescue rfl
    change ((s.modConn m.conn f).conn j).member = _
    rw [conn_modConn]
    split
    · exact hmember _
    · rfl
  refine ⟨?_, fun r hr hplace => ?_⟩
  · refine next_powered hp ((notReady_move hreq hs).trans ?_)
    have hflags : conclusionFlags m.rescue (Conclusion.notReady.outside (s.allows m.conn)) false .notReady = 0 := by
      simp [conclusionFlags, hbalancing]
    have hby : s.concludedBy m .notReady false
        = s.concluded m.conn (fun c => { c with note := none, st := if 0 < c.dwell then .resting else .steady }) 0 := by
      rw [State.concludedBy, hflags]
      rfl
    rw [hskipped (.inl rfl) hby (fun _ => rfl)]
    · have hz : s.flags ||| 0 = s.flags := BitVec.or_zero
      rw [hz]
    · refine concluded_stranded_nil fun x hx _ => ?_
      obtain rfl : m.src = x := Option.some.inj (hcur.symm.trans hx)
      exact hpresent
  · refine next_powered hp ((ready_move (some r) hreq hs).trans ((if_neg hr).trans ?_))
    rw [hskipped (.inr ⟨r, rfl⟩) (concludedBy_skippedOn s m r) (fun _ => rfl) (foundAt_stranded (by tauto))]
    have hflags : s.flags ||| (if s.allows m.conn r then 0 else 0x2) ||| BitVec.twoPow 19 17
        = s.flags ||| if s.allows m.conn r then BitVec.twoPow 19 17 else BitVec.twoPow 19 17 ||| BitVec.twoPow 19 1 := by
      rw [BitVec.or_assoc]
      cases s.allows m.conn r <;> rfl
    rw [hflags]
    rfl

/-- Settles O24: the record and the marks of a move DONE, and what its class hands on. -/
theorem settlingConcludesDone : Obligations.SettlingConcludesDone := by
  refine ⟨fun s => endSettling_self, fun m s hreq hs hmode hcur => ?_⟩
  dsimp only
  have hstranded : (s.concludedBy m .done false).stranded m.conn =
      if s.present m.dst = false ∧ s.attrOf m.conn = .movable ∧ s.engine.lists m.conn = false then
        [⟨m.conn, (s.held m.conn).value, m.dst⟩]
      else [] := by
    have hi : m.conn < s.conns.length := by
      by_contra hn
      rw [conn_of_le (by omega)] at hcur
      cases hcur
    have hconn : (s.concludedBy m .done false).conn m.conn
        = Conn.conclude m.rescue s.conf.dwell (s.allows m.conn) .done (s.conn m.conn) := conn_modConn_self hi _
    exact stranded_concluded hmode ((congrArg Conn.cur hconn).trans hcur) (.inr (congrArg Conn.st hconn))
  have hflags : s.flags ||| conclusionFlags m.rescue (Conclusion.done.outside (s.allows m.conn)) false .done = s.flags := by
    simp [conclusionFlags]
  have hconclude := recordConclusion_done hmode m
  rw [hstranded] at hconclude
  simp only [State.concludedBy, State.concluded, hflags] at hconclude
  refine ⟨fun hrescue => ?_, fun p hrescue hst hplan hopen => ?_⟩
  · rw [endSettling_settling hreq hs, concludeMove_eq, hconclude]
    simp only [Bool.false_eq_true, false_and, if_false]
    rw [if_pos hrescue, rescueEmptied_eq]
    rfl
  · have hnot : ¬m.rescue = true := by simp [hrescue]
    rw [endSettling_settling hreq hs, concludeMove_eq, hconclude]
    simp only [Bool.false_eq_true, false_and, if_false]
    rw [if_neg hnot]
    exact congrArg State.arbitrate (planResult_of (p := p) hmode hst hplan rfl hopen)

end Sys2Proof.Proofs


/-! Recoveries, release checks and inventory queries, answered or not (R33, R34, R73 to R75), where nothing else waits. -/

namespace Sys2Proof.Machine

variable {s t : State} {i : Nat}

/-- A recovery or release check over: the engine FREE, no connection stranded, no source to take (R60, R76). -/
theorem finishRecovery_quiet {f : Conn → Conn} {F : BitVec 19} (hmode : s.mode ≠ .inventory) (h : s.nothingElse i = true)
    (hstay : ∀ x, (f (s.conn i)).cur = some x → (f (s.conn i)).st = .steady ∨ (f (s.conn i)).st = .resting → s.present x = true)
    (hdue : ((f (s.conn i)).member.all fun x => decide (0 < x.retry)) = true) :
    State.finishRecovery i { s with conns := s.conns.modify i f, flags := F } =
      { s with conns := s.conns.modify i f, engine := { s.engine with req := none }, flags := F } := by
  have hnone : State.stranded { s with conns := s.conns.modify i f, engine := { s.engine with req := none }, flags := F } i = [] :=
    stranded_nil (conn_concluded_of (s := s) (i := i) (flags := 0)
      (P := fun c => ∀ x, c.cur = some x → c.st = .steady ∨ c.st = .resting → s.present x = true) hstay fun _ hx => nomatch hx)
  have happended := (appendStranded_eq i { s with conns := s.conns.modify i f, engine := { s.engine with req := none }, flags := F }).trans
    (by rw [hnone, List.append_nil])
  refine (congrArg State.arbitrate happended).trans (arbitrate_nothingElse (i := i) ?_ ?_ hmode)
  · exact concluded_nothingElse (s := s) h f 0
  · exact concluded_not_due (s := s) (flags := 0) hdue

/-- A timeout or wait whose count is at its end, of a request that is no move. -/
theorem queryTimeout_check {n : Nat} (hreq : s.engine.req = some (.check i n)) (hn : n = 0) :
    s.queryTimeout = s.releaseChecked i none := by
  rw [State.queryTimeout, expired_of hreq hn]

theorem queryTimeout_inventory {n : Nat} (hreq : s.engine.req = some (.inventory i n)) (hn : n = 0) :
    s.queryTimeout = s.inventoryAnswer i none := by
  rw [State.queryTimeout, expired_of hreq hn]

theorem queryTimeout_recovery {n : Nat} (hreq : s.engine.req = some (.recovery i .query n)) (hn : n = 0) :
    s.queryTimeout = (s.setFlag .moduleSilent).attemptFailed i := by
  rw [State.queryTimeout, expired_of hreq hn]

theorem recoveryWaitLimit_wait {n : Nat} {x : Phase} (hreq : s.engine.req = some (.recovery i (.wait x) n)) (hn : n = 0) :
    s.recoveryWaitLimit = s.attemptFailed i := by
  rw [State.recoveryWaitLimit, expired_of hreq hn]

/-- A recovery that found or closed a path: the connection leaves the recovery set (R31). -/
theorem recoveredOn_quiet {x : Phase} {ok : Bool} (hmode : s.mode ≠ .inventory) (h : s.nothingElse i = true)
    (hstay : ok = false ∨ s.present x = true) :
    s.recoveredOn i x ok =
      { s with
        conns := s.conns.modify i fun c =>
          { c with cur := some x, member := none, st := if ok then if 0 < c.dwell then .resting else .steady else .faulted }
        engine := { s.engine with req := none } } := by
  refine finishRecovery_quiet (f := fun c =>
      { c with cur := some x, member := none, st := if ok then if 0 < c.dwell then .resting else .steady else .faulted })
    (F := s.flags) hmode h (fun y hy hst => ?_) rfl
  rcases hstay with rfl | hp
  · simp at hst
  · obtain rfl : x = y := Option.some.inj hy
    exact hp

/-- A recovery attempt failed (R31, R73). -/
theorem attemptFailed_quiet {k : Member} {F : BitVec 19} (hmode : s.mode ≠ .inventory) (h : s.nothingElse i = true)
    (hdark : (s.conn i).st = .dark) (hmember : (s.conn i).member = some k) :
    State.attemptFailed i { s with flags := F } =
      if (s.conn i).attempts < 2 then
        { s with
          conns := s.conns.modify i fun x => { x with attempts := x.attempts + 1, member := some { k with retry := 10 } }
          engine := { s.engine with req := none }
          flags := F }
      else
        { s with
          conns := s.conns.modify i fun x => { x with attempts := x.attempts + 1, st := .darkLocked, member := none }
          engine := { s.engine with req := none }
          flags := F ||| BitVec.twoPow 19 0 } := by
  have hmax : maxAttempts = 3 := rfl
  have hconns {g : Conn → Conn} (hg : (s.conn i).attemptFailed = g (s.conn i)) :
      s.conns.modify i Conn.attemptFailed = s.conns.modify i g := congrArg State.conns (modConn_congr hg)
  change State.finishRecovery i ((State.modConn i Conn.attemptFailed { s with flags := F }).setFlagIf
    (decide (maxAttempts ≤ (s.conn i).attempts + 1)) .connectionDark) = _
  by_cases ha : (s.conn i).attempts < 2
  · have hrecord := hconns (g := fun x => { x with attempts := x.attempts + 1, member := some { k with retry := 10 } }) (by
      rw [Conn.attemptFailed, if_pos (by omega), hmember]
      rfl)
    rw [decide_eq_false (by omega), if_pos ha]
    change State.finishRecovery i { s with conns := s.conns.modify i Conn.attemptFailed, flags := F } = _
    rw [hrecord]
    exact finishRecovery_quiet hmode h (fun y _ hs => by simp [hdark] at hs) rfl
  · have hrecord := hconns (g := fun x => { x with attempts := x.attempts + 1, st := .darkLocked, member := none }) (by
      rw [Conn.attemptFailed, if_neg (by omega)])
    rw [decide_eq_true (by omega), if_neg ha]
    change State.finishRecovery i { s with conns := s.conns.modify i Conn.attemptFailed, flags := F ||| BitVec.twoPow 19 0 } = _
    rw [hrecord]
    exact finishRecovery_quiet hmode h (fun y _ hs => by simp at hs) rfl

/-- A recovery whose QUERY names no path: its MAKE is held for the target, or the attempt is not made (R73, R74). -/
theorem recoverDark_target {x : Phase} (h : s.recoveryTarget i = some x) :
    s.recoverDark i =
      { s with
        conns := s.conns.modify i fun c => { c with cur := none }
        engine := { s.engine with req := some (.recovery i (.wait x) 2) } } := by
  have htarget : (s.modConn i fun c => { c with cur := none }).recoveryTarget i = some x := h
  rw [State.recoverDark, htarget]
  rfl

theorem recoverDark_none (hmode : s.mode ≠ .inventory) (hquiet : s.nothingElse i = true) (h : s.recoveryTarget i = none) :
    s.recoverDark i =
      { s with
        conns := s.conns.modify i fun c => { c with cur := none, member := c.member.map fun k => { k with retry := 10 } }
        engine := { s.engine with req := none } } := by
  have htarget : (s.modConn i fun c => { c with cur := none }).recoveryTarget i = none := h
  have hconns : (s.conns.modify i fun c => { c with cur := none }).modify i (Conn.setRetry retryWait)
      = s.conns.modify i fun c => { c with cur := none, member := c.member.map fun k => { k with retry := 10 } } := by
    rw [List.modify_modify_eq]
    rfl
  rw [State.recoverDark, htarget]
  change State.finishRecovery i
    { s with conns := (s.conns.modify i fun c => { c with cur := none }).modify i (Conn.setRetry retryWait), flags := s.flags } = _
  rw [hconns]
  refine finishRecovery_quiet hmode hquiet (fun y hy => nomatch hy) ?_
  cases hm : (s.conn i).member <;> simp

/-! ### Inventory queries (R33, R75) -/

/-- The next inventory query, or after the last the entry to LISTEN_ONLY, with the record of `i` changed and the flags `F` (R75, R170,
R171). -/
def State.inventoryWith (s : State) (i : Nat) (f : Conn → Conn) (F : BitVec 19) : State :=
  if i + 1 < s.conf.count then
    { s with
      conns := s.conns.modify i f
      engine := { s.engine with req := some (.inventory (i + 1) 5), invNext := i + 1 }
      out := .command (.query (i + 1)) :: s.out
      flags := F }
  else State.arbitrate
    { s with
      conns := s.conns.modify i f
      engine := { s.engine with req := none, invNext := i + 1 }
      station := { s.station with mode := .listenOnly, listenOnly := some (3 * s.conf.report) }
      flags := F }

theorem finishInventoryQuery_eq (hhigh : s.pins.resetnLow = false) (hmode : s.mode = .inventory) (f : Conn → Conn) (F : BitVec 19) :
    State.finishInventoryQuery i { s with conns := s.conns.modify i f, flags := F } = s.inventoryWith i f F := by
  rw [State.finishInventoryQuery, State.inventoryWith]
  by_cases hi : i + 1 < s.conf.count
  · have hconfigured : s.configured (i + 1) = true := by simpa [State.configured] using hi
    rw [if_pos hi]
    refine (if_pos (by exact hconfigured)).trans ((arbitrate_inventory ?_ rfl).trans (if_pos ⟨hhigh, hconfigured⟩))
    exact hmode
  · have hlast : ¬s.configured (i + 1) = true := by simpa [State.configured] using hi
    rw [if_neg hi]
    exact if_neg hlast

/-- In LISTEN_ONLY the arbiter looks for a due member alone, and not at the flags (R60). -/
theorem arbitrate_listenOnly_flags (F : BitVec 19) (hmode : s.mode = .listenOnly) (hfree : s.engine.req = none) :
    State.arbitrate { s with flags := F } = { s.arbitrate with flags := F } ∧ s.arbitrate.flags = s.flags := by
  have hdue : State.dueMember { s with flags := F } = s.dueMember := rfl
  cases hd : s.dueMember with
  | some x =>
    rw [arbitrate_due (s := { s with flags := F }) hfree (.inr hmode) (hdue.trans hd), arbitrate_due hfree (.inr hmode) hd]
    exact ⟨rfl, rfl⟩
  | none =>
    have hself (u : State) (hm : u.mode = .listenOnly) (hn : u.dueMember = none) : u.arbitrate = u := by
      simp [State.arbitrate, State.arbiter, hm, hn]
    rw [hself s hmode hd]
    exact ⟨hself { s with flags := F } hmode (hdue.trans hd), rfl⟩

/-- What follows an inventory query does not look at the flags. -/
theorem inventoryWith_flags (f : Conn → Conn) (F : BitVec 19) (i : Nat) (s : State) :
    s.inventoryWith i f F = { s.inventoryWith i f s.flags with flags := F } ∧ (s.inventoryWith i f s.flags).flags = s.flags := by
  unfold State.inventoryWith
  split
  · exact ⟨rfl, rfl⟩
  · exact arbitrate_listenOnly_flags
      (s := { s with
        conns := s.conns.modify i f
        engine := { s.engine with req := none, invNext := i + 1 }
        station := { s.station with mode := .listenOnly, listenOnly := some (3 * s.conf.report) } }) F rfl rfl

end Sys2Proof.Machine

namespace Sys2Proof.Proofs
open Sys2Proof.Machine

/-- Settles O27: the record a release check sets, by its answer and by its absence. -/
theorem releaseCheckSetsItsRecord : Obligations.ReleaseCheckSetsItsRecord := by
  intro i n s hp hmode hreq hquiet
  have hnotInventory : s.mode ≠ .inventory := by rcases hmode with hm | hm <;> simp [hm]
  have hanswer (path : Option Phase) : s.queryAnswer i path true = s.releaseChecked i (some path) :=
    queryAnswer_of (r := .check i n) (c := .query i) path hreq rfl rfl
  dsimp only
  refine ⟨fun x hx => ?_, ?_, fun hn hst => ?_⟩
  · refine next_powered hp ((hanswer (some x)).trans
      (finishRecovery_quiet (F := s.flags) hnotInventory hquiet (fun y hy _ => ?_) rfl))
    obtain rfl : x = y := Option.some.inj hy
    exact hx
  · exact next_powered hp ((hanswer none).trans
      (finishRecovery_quiet (F := s.flags) hnotInventory hquiet (fun y hy _ => nomatch hy) rfl))
  · refine next_powered hp ((queryTimeout_check hreq hn).trans
      (finishRecovery_quiet hnotInventory hquiet (fun y _ hs => ?_) rfl))
    have hfaulted : (Conn.checked (s.allows i) none (s.conn i)).st = .faulted := hst
    rw [hfaulted] at hs
    simp at hs

/-- Settles O28: a recovery's QUERY and MAKE as they are answered. -/
theorem recoveryFindsOrClosesAPath : Obligations.RecoveryFindsOrClosesAPath := by
  intro i n x s hp hmode
  have hnotInventory : s.mode ≠ .inventory := by rcases hmode with hm | hm <;> simp [hm]
  have hquery (hreq : s.engine.req = some (.recovery i .query n)) (path : Option Phase) :
      s.queryAnswer i path true = s.queryTaken (.recovery i .query n) path :=
    queryAnswer_of (c := .query i) path hreq rfl rfl
  have hclosed (hreq : s.engine.req = some (.recovery i (.make x) n)) (y : Phase) :
      s.closed i y true = s.recoveredOn i y (y == x) :=
    closed_of (c := .make i x) y hreq rfl rfl
  refine ⟨fun hreq hallowed hx hquiet => ?_, fun hreq hx hquiet => ?_, fun hreq htarget => ?_, fun hquiet => ?_⟩
  · refine next_powered hp ((hquery hreq (some x)).trans ((recoveredOn_quiet hnotInventory hquiet (.inr hx)).trans ?_))
    rw [hallowed]
    rfl
  · refine next_powered hp ((hclosed hreq x).trans ((recoveredOn_quiet hnotInventory hquiet (.inr hx)).trans ?_))
    rw [beq_self_eq_true]
    rfl
  · have hchosen : s.recoveryTarget i = some x := by
      rcases htarget with ⟨hhome, rfl⟩ | ⟨hhome, hfind⟩
      · exact if_pos hhome
      · exact (if_neg (by simp [hhome])).trans hfind
    exact next_powered hp ((hquery hreq none).trans (recoverDark_target hchosen))
  · dsimp only
    refine ⟨fun hreq hoff => ?_, fun y hreq hy => ?_, fun hreq hhome hnone => ?_⟩
    · refine next_powered hp ((hquery hreq (some x)).trans ?_)
      change s.recoveredOn i x (s.allows i x) = _
      rw [hoff]
      exact recoveredOn_quiet hnotInventory hquiet (.inl rfl)
    · refine next_powered hp ((hclosed hreq y).trans ?_)
      rw [beq_false_of_ne hy]
      exact recoveredOn_quiet hnotInventory hquiet (.inl rfl)
    · have hchosen : s.recoveryTarget i = none := by
        rw [State.recoveryTarget, if_neg (by simp [hhome]), List.find?_eq_none]
        intro y _
        cases hy : s.allows i y with
        | false => simp
        | true => simp [hnone y hy]
      exact next_powered hp ((hquery hreq none).trans (recoverDark_none hnotInventory hquiet hchosen))

/-- Settles O29: each way an attempt fails. -/
theorem failedRecoveryCountsItsAttempt : Obligations.FailedRecoveryCountsItsAttempt := by
  intro c i n r k s hp hmode hreq hquiet hdark hmember hfails
  have hnotInventory : s.mode ≠ .inventory := by rcases hmode with hm | hm <;> simp [hm]
  rcases hfails with ⟨x, rfl, rfl, hn⟩ | ⟨x, rfl, rfl, hn⟩ | ⟨x, rfl, rfl⟩ | ⟨rfl, rfl, hn⟩
  · exact next_powered hp ((recoveryWaitLimit_wait hreq hn).trans
      (attemptFailed_quiet (F := s.flags) hnotInventory hquiet hdark hmember))
  · exact next_powered hp ((closedTimeout_of hreq (i := i) (p := x) rfl hn).trans
      (attemptFailed_quiet (F := s.flags) hnotInventory hquiet hdark hmember))
  · exact next_powered hp ((nak_of (c := .make i x) hreq rfl rfl).trans
      (attemptFailed_quiet (F := s.flags) hnotInventory hquiet hdark hmember))
  · exact next_powered hp ((queryTimeout_recovery hreq hn).trans
      (attemptFailed_quiet (F := s.flags ||| BitVec.twoPow 19 2) hnotInventory hquiet hdark hmember))

/-- Settles O26: the record set by the answer, and the next query or the entry to LISTEN_ONLY. -/
theorem inventoryQuerySetsItsRecord : Obligations.InventoryQuerySetsItsRecord := by
  intro i n s hp hhigh hmode hreq hmember
  have hanswer (path : Option Phase) : s.queryAnswer i path true = s.inventoryAnswer i (some path) :=
    queryAnswer_of (r := .inventory i n) (c := .query i) path hreq rfl rfl
  dsimp only
  refine ⟨fun x => ?_, ?_, fun hn => ?_⟩
  · exact next_powered hp ((hanswer (some x)).trans (finishInventoryQuery_eq hhigh hmode _ s.flags))
  · have hrecord : s.conns.modify i (Conn.inventoried (s.allows i) (some none))
        = s.conns.modify i fun c => { c with st := .dark, cur := none, attempts := 0, member := some ⟨.recover, 0⟩ } :=
      congrArg State.conns (modConn_congr (by simp [Conn.inventoried, Conn.goDark, Conn.joinSet, hmember]))
    refine next_powered hp ((hanswer none).trans ?_)
    change State.finishInventoryQuery i
      { s with conns := s.conns.modify i (Conn.inventoried (s.allows i) (some none)), flags := s.flags } = _
    rw [hrecord]
    exact finishInventoryQuery_eq hhigh hmode _ s.flags
  · refine next_powered hp ((queryTimeout_inventory hreq hn).trans ((finishInventoryQuery_eq hhigh hmode (fun c => c) _).trans ?_))
    obtain ⟨hwith, hflags⟩ := inventoryWith_flags (fun c => c) (s.flags ||| BitVec.twoPow 19 2) i s
    exact hwith.trans <| congrArg (fun F => { s.inventoryWith i (fun c => c) s.flags with flags := F ||| BitVec.twoPow 19 2 }) hflags.symm

end Sys2Proof.Proofs


/-! The access to the line and its transmissions (R98, R102 to R106). -/

namespace Sys2Proof.Machine

variable {s t : State}

/-! ### Cycles, one after the other -/

theorem count_count (a b : Nat) (r : Req) : (r.count a).count b = r.count (a + b) := by
  cases r <;> simp [Req.count, Nat.sub_sub]

theorem cyclesPass_succ (n : Nat) (s : State) : s.cyclesPass (n + 1) = (s.cyclesPass 1).cyclesPass n := by
  have hcount : (Req.count n ∘ Req.count 1) = Req.count (n + 1) := by
    funext r
    rw [Function.comp_apply, count_count, Nat.add_comm]
  simp only [State.cyclesPass, State.accessCycles, State.accessCycle_engine, Option.map_map, hcount]

/-- `n` cycles pass as `n` single ones. -/
theorem cyclesPass_eq_cycledTimes (n : Nat) (s : State) : s.cyclesPass n = s.cycledTimes n := by
  induction n generalizing s with
  | zero => exact State.cyclesPass_zero s
  | succ n ih => rw [cyclesPass_succ, ih, cyclesPass_one, State.cycledTimes]

/-- Cycle events come while the counter is aligned and there is a reference phase (R58). -/
theorem noCycles_eq_true_iff : s.noCycles = true ↔ ¬(s.time.aligned = true ∧ s.time.ref ≠ none) := by
  cases ha : s.time.aligned <;> cases hr : s.time.ref <;> simp [State.noCycles, ha, hr]

/-- The row of a count in cycles that is still running. -/
theorem cycles_row (n : Nat) (s : State) :
    (if s.noCycles then s.cyclesPass n else s) = if s.time.aligned = true ∧ s.time.ref ≠ none then s else s.cycledTimes n := by
  rw [cyclesPass_eq_cycledTimes]
  by_cases hc : s.time.aligned = true ∧ s.time.ref ≠ none
  · rw [if_pos hc, if_neg (fun h => noCycles_eq_true_iff.mp h hc)]
  · rw [if_neg hc, if_pos (noCycles_eq_true_iff.mpr hc)]

/-! ### The head frame (R102, R106) -/

/-- A transmission takes the head frame from its place. -/
theorem startTransmission_of {k : FrameKind} {f : Frame} {l : Line} (hhead : s.line.head = some k)
    (htake : s.line.takeFrame k = some (f, l)) :
    s.startTransmission =
      { s with
        line := { l with tx := some f, access := .sending, assembly := .none }
        out := .frame (frameBytes s.conf.feeder s.conf.address f) :: s.out } := by
  rw [State.startTransmission, hhead, Option.bind_some, htake]
  rfl

theorem startTransmission_none (hhead : s.line.head = none) : s.startTransmission = { s with line := { s.line with access := .idle } } := by
  rw [State.startTransmission, hhead]
  rfl

theorem head_hold {l : Line} {h : HoldBody} (hh : l.qHold = some h) : l.head = some .hold := by simp [Line.head, hh]

theorem head_outcome {l : Line} {o : QOutcome} {v : Vec} (hh : l.qHold = none) (ho : l.qOutcome = some o) (hv : o.vec = some v) :
    l.head = some .outcome := by
  simp [Line.head, hh, ho, hv]

/-- An unripe OUTCOME is passed over. -/
theorem outcome_unripe {l : Line} (h : ∀ o, l.qOutcome = some o → o.vec = none) : (l.qOutcome.any fun o => o.vec.isSome) = false := by
  cases ho : l.qOutcome with
  | none => rfl
  | some o => simp [h o ho]

theorem head_intent {l : Line} {b : IntentBody} (hh : l.qHold = none) (ho : ∀ o, l.qOutcome = some o → o.vec = none)
    (hi : l.qIntent = some b) : l.head = some .intent := by
  simp [Line.head, hh, outcome_unripe ho, hi]

theorem head_load {l : Line} {b : LoadBody} (hh : l.qHold = none) (ho : ∀ o, l.qOutcome = some o → o.vec = none)
    (hi : l.qIntent = none) (hl : l.qLoad = some b) : l.head = some .load := by
  simp [Line.head, hh, outcome_unripe ho, hi, hl]

theorem head_none {l : Line} (hh : l.qHold = none) (ho : ∀ o, l.qOutcome = some o → o.vec = none) (hi : l.qIntent = none)
    (hl : l.qLoad = none) : l.head = none := by
  simp [Line.head, hh, outcome_unripe ho, hi, hl]

/-- The line once the access is free: a gap for a frame left to send (R104, R106). -/
theorem refresh_idle (lcd : Bool) (l : Line) :
    Line.refresh lcd { l with access := .idle }
      = { l with access := if l.head.isSome then .gap (if lcd then none else some 0) else .idle } := by
  have hhead : ({ l with access := .idle } : Line).head = l.head := rfl
  rw [Line.refresh, hhead]
  by_cases hs : l.head.isSome = true
  · simp only [hs, if_true]
    rfl
  · simp only [hs, Bool.false_eq_true, if_false]

end Sys2Proof.Machine

namespace Sys2Proof.Proofs
open Sys2Proof.Machine

/-- Settles O33: the carrier's rise and fall, and the row of a quiet gap, complete or still running. -/
theorem carrierAndGapMoveTheAccess : Obligations.CarrierAndGapMoveTheAccess := by
  refine ⟨fun s hp => ⟨fun hlcd => ?_, fun hlcd => ?_⟩, fun k s hp hk => ⟨fun h hacc hhead => ?_, fun n hacc => ?_⟩,
    fun k s hp hk hacc => ?_⟩
  · change Host.Outcome.next (if s.pins.pornLow then _ else s.lcdRise) = _
    rw [if_neg (by simp [hp]), State.lcdRise, if_neg (by simp [hlcd])]
    have hreceives : (if s.receives = true then Assembly.underWay else .none)
        = if s.mode.working = true ∧ s.line.access ≠ .sending then .underWay else .none :=
      if_congr (by simp [State.receives]) rfl rfl
    rw [hreceives]
    cases s.line.access <;> rfl
  · change Host.Outcome.next (if s.pins.pornLow then _ else s.lcdFall) = _
    rw [if_neg (by simp [hp]), State.lcdFall, if_pos hlcd]
    rcases s.line.access with _ | (_ | _) | _ | ⟨_, _ | _⟩ | _ <;> rfl
  · have hgap : s.quietGap = if s.drawValue h.deferral = 0 then s.drawn.startTransmission
        else s.drawn.setAccess (.defer (s.drawValue h.deferral)) := by
      simp only [State.quietGap, hacc, State.gapComplete, hhead]
      exact if_pos hk
    have hdraw : s.drawValue h.deferral ≤ h.deferral := Nat.le_of_lt_succ (Nat.mod_lt _ (Nat.succ_pos _))
    have hdefer (hd : s.drawValue h.deferral ≠ 0) := next_powered hp (hgap.trans (if_neg hd))
    have hstart (hd : s.drawValue h.deferral = 0) := next_powered hp (hgap.trans (if_pos hd))
    cases h <;> exact ⟨hdraw, hdefer, hstart⟩
  · refine next_powered hp (f := State.quietGap) ?_
    simp only [State.quietGap, hacc, State.gapComplete]
    exact if_pos hk
  · refine next_powered hp (f := State.quietGap) ((?_ : _ = if s.noCycles then s.cyclesPass (gapCycles - k) else s).trans (cycles_row _ s))
    rcases hacc with hacc | ⟨n, hacc⟩ <;>
      simp only [State.quietGap, hacc] <;> exact if_neg (Nat.not_le.mpr hk)

/-- Settles O34: the head of the queue by its places, and the rows of a deferral's end and a HOLD's. -/
theorem deferralEndSendsTheHeadFrame : Obligations.DeferralEndSendsTheHeadFrame := by
  refine ⟨fun s hp => ?_, fun n s hp hacc => ?_, fun h s hp hh => ?_⟩
  · have hstarts {u : State} (hu : s.startTransmission = u) :
        s.startTransmission = u ∧ (s.line.access = .defer 0 → exec .deferralEnd s = .next u) := by
      refine ⟨hu, fun hacc => next_powered hp (f := State.deferralEnd) ?_⟩
      simp only [State.deferralEnd, hacc, if_true]
      exact hu
    dsimp only
    refine ⟨fun h hh => ?_, fun o v hh ho hv => ?_, fun b hh ho hi => ?_, fun b hh ho hi hl => ?_, fun hh ho hi hl => ?_⟩
    · exact hstarts (startTransmission_of (head_hold hh) (by rw [Line.takeFrame, hh]; rfl))
    · exact hstarts (startTransmission_of (head_outcome hh ho hv) (by rw [Line.takeFrame, ho, Option.bind_some, hv]; rfl))
    · exact hstarts (startTransmission_of (head_intent hh ho hi) (by rw [Line.takeFrame, hi]; rfl))
    · exact hstarts (startTransmission_of (head_load hh ho hi hl) (by rw [Line.takeFrame, hl]; rfl))
    · exact hstarts (startTransmission_none (head_none hh ho hi hl))
  · refine next_powered hp (f := State.deferralEnd) ((?_ : _ = if s.noCycles then s.cyclesPass (n + 1) else s).trans (cycles_row _ s))
    simp only [State.deferralEnd, hacc]
    exact if_neg n.succ_ne_zero
  · refine next_powered hp (f := State.holdRemainingEnd) ?_
    rw [State.holdRemainingEnd, hh]
    exact if_congr (by simp) rfl rfl

/-- Settles O35: the line freed, and the own INTENT handed to the planner. -/
theorem transmissionCompleteFreesTheLine : Obligations.TransmissionCompleteFreesTheLine := by
  intro s hp hacc
  dsimp only
  refine ⟨fun hother => ?_, fun b hb hst hnum => ?_⟩
  · have hcomplete : s.transmissionComplete =
        { s with line := Line.refresh s.pins.lcd { s.line with tx := none, access := .idle } } := by
      rw [State.transmissionComplete, if_pos hacc]
      cases htx : s.line.tx with
      | none => rfl
      | some f =>
        cases f with
        | intent b => exact absurd htx (hother b)
        | load | outcome | hold => rfl
    refine next_powered hp (hcomplete.trans ?_)
    rw [refresh_idle s.pins.lcd { s.line with tx := none }]
    rfl
  · refine next_powered hp (f := State.transmissionComplete) ?_
    have hannounced : State.announcement b.num { s with line := { s.line with tx := none } } =
        s.planner.noted.foldl State.takeNoted (State.modPlanner (fun p =>
          { p with
            st := .awaiting
            announceT := none
            listenT := some (s.conf.listen + s.drawValue 1)
            lifetimeT := some s.conf.lifetime
            prec := s.pendingPairs
            noted := [] }) (State.drawn { s with line := { s.line with tx := none } })) := if_pos ⟨hst, hnum⟩
    have hpins : (State.announcement b.num { s with line := { s.line with tx := none } }).pins = s.pins := by simp
    have hline (u : State) (hu : u.pins = s.pins) : { u with line := Line.refresh u.pins.lcd { u.line with access := .idle } }
        = { u with line := Line.refresh s.pins.lcd { u.line with access := .idle } } := by rw [hu]
    have hnoted : State.takeNoted = fun (t : State) (n : Noted) =>
        if t.planner.st = .awaiting then
          match n with
          | .peerIntent => t.recheck
          | .becameHeld => if t.isHeld then t.withdraw else t
          | .phaseLoss => t.withdraw
        else t := by
      funext t n
      cases n <;> rfl
    rw [State.transmissionComplete, if_pos hacc, hb]
    refine (hline _ hpins).trans ?_
    rw [hannounced, hnoted]
    rfl

end Sys2Proof.Proofs


/-! Line frames read back as they were formed (R92, R93, R95 to R97, R99, R187, R188): each field's coding first, then each body. -/

namespace Sys2Proof.Machine

/-! ### Fields (R187, section 12.2) -/

theorem bytesWord_wordBytes (w : Word16) : bytesWord (w.extractLsb' 8 8) (w.extractLsb' 0 8) = w := by
  refine BitVec.eq_of_toNat_eq ?_
  rw [bytesWord, BitVec.toNat_append, ← Nat.shiftLeft_add_eq_or_of_lt (BitVec.isLt _)]
  simp only [BitVec.extractLsb'_toNat, Nat.shiftLeft_eq, Nat.shiftRight_eq_div_pow]
  have := w.isLt
  omega

theorem bytesInt_intBytes {x : Int} (hlo : -32768 ≤ x) (hhi : x < 32768) :
    bytesInt ((BitVec.ofInt 16 x).extractLsb' 8 8) ((BitVec.ofInt 16 x).extractLsb' 0 8) = x := by
  rw [bytesInt, bytesWord_wordBytes, BitVec.toInt_ofInt]
  exact Int.bmod_eq_of_le (by simpa using hlo) (by simpa using hhi)

theorem bytesWord_natBytes {n : Nat} (h : n < 65536) :
    (bytesWord ((BitVec.ofNat 16 n).extractLsb' 8 8) ((BitVec.ofNat 16 n).extractLsb' 0 8)).toNat = n := by
  rw [bytesWord_wordBytes, BitVec.toNat_ofNat]
  exact Nat.mod_eq_of_lt h

theorem natByte_toNat {n : Nat} (h : n < 256) : (natByte n).toNat = n := by
  rw [natByte, BitVec.toNat_ofNat]
  exact Nat.mod_eq_of_lt h

theorem vecOk_iff {v : Vec} : vecOk v = true ↔
    (-32000 ≤ v.a ∧ v.a ≤ 32000) ∧ (-32000 ≤ v.b ∧ v.b ≤ 32000) ∧ (-32000 ≤ v.c ∧ v.c ≤ 32000) := by
  simp [vecOk, within_iff, and_assoc]

/-- The six bytes of a vector are read back. -/
theorem vecBytes_eq (v : Vec) (h : vecOk v = true) :
    ∃ a1 a0 b1 b0 c1 c0, vecBytes v = [a1, a0, b1, b0, c1, c0] ∧ (⟨bytesInt a1 a0, bytesInt b1 b0, bytesInt c1 c0⟩ : Vec) = v := by
  obtain ⟨⟨ha, ha'⟩, ⟨hb, hb'⟩, hc, hc'⟩ := vecOk_iff.mp h
  refine ⟨_, _, _, _, _, _, rfl, ?_⟩
  rw [bytesInt_intBytes (by omega) (by omega), bytesInt_intBytes (by omega) (by omega), bytesInt_intBytes (by omega) (by omega)]

theorem codeReason_reasonCode (r : Reason) : codeReason (reasonCode r) = some r := by cases r <;> decide

theorem codeResult_resultCode (r : MoveResult) : codeResult (resultCode r) = some r := by cases r <;> decide

theorem codePhase_src (p q : Phase) : codePhase (movePhases p q >>> 4) = some p := by cases p <;> cases q <;> decide

theorem codePhase_dst (p q : Phase) : codePhase (movePhases p q &&& 0x0F) = some q := by cases p <;> cases q <;> decide

/-- The flags of a LOAD, bit by bit. -/
theorem loadFlags_bits (b : LoadBody) :
    (loadFlags b).getLsbD 0 = b.stale ∧ (loadFlags b).getLsbD 1 = b.throttled ∧ (loadFlags b).getLsbD 2 = b.executing
      ∧ (loadFlags b).getLsbD 3 = b.last.isSome := by
  unfold loadFlags
  generalize b.last.isSome = l
  cases b.stale <;> cases b.throttled <;> cases b.executing <;> cases l <;> decide

/-! ### Bodies (R93, R95 to R97) -/

theorem readLoad_body {b : LoadBody} (h : (Frame.load b).legal = true) : readLoad (Frame.load b).body = some b := by
  simp only [Frame.legal, Bool.and_eq_true, decide_eq_true_eq] at h
  obtain ⟨⟨⟨⟨hvec, ha⟩, hb⟩, hc⟩, hk⟩ := h
  obtain ⟨hstale, hthrottled, hexecuting, hlast⟩ := loadFlags_bits b
  obtain ⟨a1, a0, b1, b0, c1, c0, hbytes, hread⟩ := vecBytes_eq b.vec hvec
  have hlast' : (if (loadFlags b).getLsbD 3 = true then some (b.last.getD 0) else none) = b.last := by
    rw [hlast]
    cases b.last <;> rfl
  simp only [Frame.body, hbytes, List.cons_append, List.nil_append, readLoad, hread, hstale, hthrottled, hexecuting, hlast',
    natByte_toNat (n := b.counts.a) (by omega), natByte_toNat (n := b.counts.b) (by omega), natByte_toNat (n := b.counts.c) (by omega),
    natByte_toNat (n := b.concluded) (by omega), hvec, ha, hb, hc, hk, decide_true, Bool.and_self, if_true]

theorem readMoves_moveBytes (ms : List FMove) (h : (ms.all fun m => within 1000 m.cur) = true) :
    readMoves ms.length (ms.flatMap moveBytes) = some ms := by
  induction ms with
  | nil => rfl
  | cons m ms ih =>
    simp only [List.all_cons, Bool.and_eq_true] at h
    obtain ⟨hm, hms⟩ := h
    obtain ⟨hlo, hhi⟩ := (within_iff _ _).mp hm
    have hcur := bytesInt_intBytes (x := m.cur) (by omega) (by omega)
    simp only [List.flatMap_cons, moveBytes, intBytes, wordBytes, List.cons_append, List.nil_append, List.length_cons, readMoves,
      codePhase_src, codePhase_dst, ih hms, hcur, hm, if_true]

theorem readIntent_body {b : IntentBody} (h : (Frame.intent b).legal = true) : readIntent (Frame.intent b).body = some b := by
  simp only [Frame.legal, Bool.and_eq_true, decide_eq_true_eq] at h
  obtain ⟨⟨⟨⟨h1, h3⟩, hlife⟩, hlife'⟩, hmoves⟩ := h
  simp only [Frame.body, readIntent, natByte_toNat (n := b.moves.length) (by omega), readMoves_moveBytes b.moves hmoves,
    natByte_toNat (n := b.life) (by omega), h1, h3, hlife, hlife', decide_true, Bool.and_self, if_true]

theorem readResults_codes (rs : List MoveResult) {v : Vec} (h : vecOk v = true) :
    readResults rs.length (rs.map resultCode ++ vecBytes v) = some (rs, v) := by
  induction rs with
  | nil =>
    obtain ⟨a1, a0, b1, b0, c1, c0, hbytes, hread⟩ := vecBytes_eq v h
    simp only [List.map_nil, List.nil_append, List.length_nil, hbytes, readResults, hread]
  | cons r rs ih => simp only [List.map_cons, List.cons_append, List.length_cons, readResults, codeResult_resultCode, ih]

theorem readOutcome_body {b : OutcomeBody} (h : (Frame.outcome b).legal = true) : readOutcome (Frame.outcome b).body = some b := by
  simp only [Frame.legal, Bool.and_eq_true, decide_eq_true_eq] at h
  obtain ⟨⟨⟨h1, h3⟩, hvec⟩, hresults⟩ := h
  simp only [Frame.body, readOutcome, natByte_toNat (n := b.results.length) (by omega), readResults_codes b.results hvec, h1, h3, hvec]
  obtain ⟨num, completed, results, vec⟩ := b
  cases completed with
  | true => simp
  | false => simpa using hresults

theorem readHold_body {b : HoldBody} (h : (Frame.hold b).legal = true) : readHold (Frame.hold b).body = some b := by
  simp only [Frame.legal, Bool.and_eq_true, decide_eq_true_eq] at h
  simp only [Frame.body, natBytes, wordBytes, List.cons_append, List.nil_append, readHold, codeReason_reasonCode,
    bytesWord_natBytes (n := b.dur) (by omega), h.1, h.2, decide_true, Bool.and_self, if_true]

theorem readBody_body {f : Frame} (h : f.legal = true) : readBody f.kindByte f.body = some f := by
  cases f with
  | load b => exact congrArg (Option.map Frame.load) (readLoad_body h)
  | intent b => exact congrArg (Option.map Frame.intent) (readIntent_body h)
  | outcome b => exact congrArg (Option.map Frame.outcome) (readOutcome_body h)
  | hold b => exact congrArg (Option.map Frame.hold) (readHold_body h)

/-! ### Frames (R92, R99) -/

theorem checkedPart_append (l : List Byte) : checkedPart (l ++ wordBytes (crc16 l)) = some l := by
  have hlength : (l ++ wordBytes (crc16 l)).length - 2 = l.length := by simp [wordBytes]
  simp only [checkedPart, hlength, List.take_left', List.drop_left']
  exact if_pos ⟨by simp [wordBytes], trivial⟩

/-- A frame formed by the rules, validated at a station: its feeder alone decides. -/
theorem validateFrame_frameBytes {feeder other : Word16} {addr : Nat} {f : Frame} (hlo : 1 ≤ addr) (hhi : addr ≤ 250)
    (h : f.legal = true) : validateFrame other (frameBytes feeder addr f) = if feeder = other then some (addr, f) else none := by
  have haddr := natByte_toNat (n := addr) (by omega)
  simp only [validateFrame, frameBytes, checkedPart_append]
  simp only [wordBytes, List.cons_append, List.nil_append, readBody_body h, bytesWord_wordBytes, haddr, hlo, hhi, and_self, and_true]

end Sys2Proof.Machine

namespace Sys2Proof.Proofs
open Sys2Proof.Machine

/-- Settles O36: the frame is read back field by field, and its feeder code compared. -/
theorem legalFrameValidates : Obligations.LegalFrameValidates := by
  intro feeder other addr f hlo hhi hlegal
  refine ⟨?_, fun hother => ?_⟩
  · rw [validateFrame_frameBytes hlo hhi hlegal, if_pos rfl]
  · rw [validateFrame_frameBytes hlo hhi hlegal, if_neg (Ne.symm hother)]

end Sys2Proof.Proofs


/-! The neighbour table's rows: frames stored, and the ends that a tick has left (R98 to R100, R110 to R121, R135). -/

namespace Sys2Proof.Machine

variable {s t : State}

/-! ### Notices that change nothing -/

/-- Outside HELD a removal from the precedence list releases nothing (R135). -/
theorem removePairs_eq (gone : PrecPair → Bool) (hst : s.planner.st ≠ .held) :
    s.removePairs gone = { s with planner := { s.planner with prec := s.planner.prec.filter fun k => !gone k } } :=
  if_neg fun h => hst h.1

/-- An empty precedence list loses nothing. -/
theorem removePairs_empty (gone : PrecPair → Bool) (hprec : s.planner.prec = []) : s.removePairs gone = s := by
  rw [State.removePairs, if_neg fun h => h.2.1 hprec, State.modPlanner, hprec, List.filter_nil, ← hprec]

theorem onCleared_empty (addr : Nat) (i : Option PIntent) (hprec : s.planner.prec = []) :
    s.onCleared addr i = s := by
  cases i with
  | none => rfl
  | some x => exact removePairs_empty _ hprec

theorem onHeard_idle (addr : Nat) (f : Frame) (hst : s.planner.st = .idle) (hprec : s.planner.prec = []) : s.onHeard addr f = s := by
  cases f with
  | intent b => simp [State.onHeard, State.onPeerIntent, hst]
  | outcome b => exact removePairs_empty _ hprec
  | load b =>
    cases hl : b.last with
    | none => simp [State.onHeard, hl]
    | some n =>
      simp only [State.onHeard, hl]
      exact removePairs_empty _ hprec
  | hold b => rfl

theorem onPeerHold_idle (before : Bool) (hst : s.planner.st = .idle) : s.onPeerHold before = s := by
  rw [State.onPeerHold, becomesHeld_idle hst, ite_self]

/-- A peer's hold that no longer stands makes nobody held (R121, R130). -/
theorem onPeerHold_not_new {before : Bool} (h : s.peerHeld = true → before = true) : s.onPeerHold before = s := by
  rw [State.onPeerHold, if_neg]
  cases before with
  | true => simp
  | false =>
    have hnone : s.peerHeld = false := by
      by_contra hn
      exact Bool.false_ne_true (h (by simpa using hn))
    simp [hnone]

/-- A slot that loses its hold adds no peer's hold. -/
theorem peerHeld_of_set {k : Nat} {x : Option Entry} (hx : (x.any fun e => e.hold.isSome) = false)
    (h : ((s.nbrs.set k x).any fun e => e.any fun y => y.hold.isSome) = true) : s.peerHeld = true := by
  obtain ⟨y, hy, hheld⟩ := List.any_eq_true.mp h
  rcases List.mem_or_eq_of_mem_set hy with hmem | rfl
  · exact List.any_eq_true.mpr ⟨y, hmem, hheld⟩
  · rw [hx] at hheld
    cases hheld

/-! ### The end of a frame (R98) -/

theorem endAssembly_eq (s : State) : s.endAssembly = s.afterFrame := by
  cases hl : s.pins.lcd with
  | true => simp [State.endAssembly, State.lcdFall, State.afterFrame, hl]
  | false =>
    have hpins : ({ s.pins with lcd := false } : Pins) = s.pins := by rw [← hl]
    simp [State.endAssembly, State.lcdFall, State.afterFrame, hl, hpins]

/-- A frame being received is validated at its end (R98, R99). -/
theorem heardFrame_arriving (bytes : List Byte) (h : s.frameArriving = true) :
    s.heardFrame bytes = validateFrame s.conf.feeder bytes := by
  simp only [State.frameArriving, Bool.and_eq_true, Bool.or_eq_true, beq_iff_eq, bne_iff_ne, Bool.not_eq_true'] at h
  obtain ⟨⟨hw, hsending⟩, harriving⟩ := h
  refine if_pos ⟨?_, by simp [State.receives, hw, hsending]⟩
  rcases harriving with ⟨hl, ha⟩ | ⟨hl, ha⟩
  · simp [State.lcdFall, hl, ha]
  · simp [State.lcdFall, hl, ha]

theorem receiveFrame_valid {bytes : List Byte} {addr : Nat} {f : Frame} (harriving : s.frameArriving = true)
    (hvalid : validateFrame s.conf.feeder bytes = some (addr, f)) : s.receiveFrame bytes = s.afterFrame.frameHeard addr f := by
  rw [State.receiveFrame, heardFrame_arriving bytes harriving, hvalid, ← endAssembly_eq]

theorem receiveFrame_bad {bytes : List Byte} (harriving : s.frameArriving = true) (hbad : validateFrame s.conf.feeder bytes = none) :
    s.receiveFrame bytes = s.afterFrame := by
  rw [State.receiveFrame, heardFrame_arriving bytes harriving, hbad, ← endAssembly_eq]

/-- The table takes a frame; the planner IDLE, the notices end there (R110 to R117). -/
theorem takeFrame_idle {addr k : Nat} {f : Frame} {e : Entry} {old : Option Entry} (hplace : s.place addr = some (k, e, old))
    (hst : s.planner.st = .idle) (hprec : s.planner.prec = []) :
    s.takeFrame addr f = (s.setSlot k (some (e.store f))).flagHold f := by
  have hplanner : ((s.setSlot k (some (e.store f))).flagHold f).planner = s.planner := by cases f <;> rfl
  rw [State.takeFrame, hplace]
  dsimp only
  generalize (s.setSlot k (some (e.store f))).flagHold f = u at hplanner
  have hidle : u.planner.st = .idle := by rw [hplanner, hst]
  have hempty : u.planner.prec = [] := by rw [hplanner, hprec]
  have hcleared (a : Nat) (i : Option PIntent) : u.onCleared a i = u := onCleared_empty a i hempty
  have hgone (a : Nat) : u.onEntryGone a = u := removePairs_empty _ hempty
  cases old <;> simp only [hgone, hcleared, onHeard_idle _ _ hidle hempty, onPeerHold_idle _ hidle]

/-! ### Contents stored (R113 to R116) -/

/-- A pending intent that a concluded number names is cleared. -/
theorem clearMatching_eq (num : Option Byte) (e : Entry) :
    e.clearMatching num =
      { e with intent := match num with
        | some n => if e.intent.map (·.num) = some n then none else e.intent
        | none => e.intent } := by
  obtain ⟨addr, fresh, age, vec, info, last, concluded, intent, hold⟩ := e
  cases num with
  | none => rfl
  | some n =>
    cases intent with
    | none => rfl
    | some i => by_cases hn : i.num = n <;> simp [Entry.clearMatching, hn]

theorem mergePeerHold_eq (h : Option PHold) (b : HoldBody) :
    mergePeerHold h b = match h with
      | none => ⟨b.dur, b.reason⟩
      | some x => if b.dur < x.left then x else ⟨b.dur, b.reason⟩ := by
  cases h with
  | none => rfl
  | some x =>
    simp only [mergePeerHold]
    rcases Nat.lt_trichotomy x.left b.dur with hlt | heq | hgt
    · rw [if_pos hlt, if_neg (by omega)]
    · rw [if_neg (by omega), if_pos heq, if_neg (by omega), heq]
    · rw [if_neg (by omega), if_neg (by omega), if_pos hgt]

/-- The entry a frame leaves of a known peer's, refreshed (R110, R113 to R116). -/
theorem store_refresh_load (e : Entry) (b : LoadBody) :
    e.refresh.store (.load b) =
      { e with
        age := 0
        fresh := true
        vec := some b.vec
        info := some ⟨b.counts, b.stale, b.throttled, b.executing⟩
        last := b.last
        concluded := b.concluded
        intent := match b.last with
          | some n => if e.intent.map (·.num) = some n then none else e.intent
          | none => e.intent } := by
  rw [Entry.store, Entry.storeLoad, clearMatching_eq]
  rfl

theorem store_refresh_outcome (e : Entry) (b : OutcomeBody) :
    e.refresh.store (.outcome b) =
      { e with
        age := 0
        fresh := true
        vec := some b.vec
        last := some b.num
        intent := if e.intent.map (·.num) = some b.num then none else e.intent } := by
  rw [Entry.store, Entry.storeOutcome, clearMatching_eq]
  rfl

theorem store_refresh_hold (e : Entry) (b : HoldBody) :
    e.refresh.store (.hold b) =
      { e with
        age := 0
        fresh := true
        hold := some (match e.hold with
          | none => ⟨b.dur, b.reason⟩
          | some h => if b.dur < h.left then h else ⟨b.dur, b.reason⟩) } := by
  rw [Entry.store, Entry.storeHold, mergePeerHold_eq]
  rfl

/-- The entry a frame leaves of a peer that is new (R111, R113). -/
theorem store_create_load (addr : Nat) (b : LoadBody) :
    (Entry.create addr).store (.load b)
      = ⟨addr, true, 0, some b.vec, some ⟨b.counts, b.stale, b.throttled, b.executing⟩, b.last, b.concluded, none, none⟩ := by
  rw [Entry.store, Entry.storeLoad, clearMatching_eq]
  cases b.last <;> rfl

theorem place_known {addr k : Nat} {e : Entry} (hslotOf : s.slotOf addr = some k) (hslot : s.slot k = some e) :
    s.place addr = some (k, e.refresh, none) := by
  rw [State.place, hslotOf]
  dsimp only
  rw [hslot]
  rfl

/-- A frame from a known peer (R110). -/
theorem receiveFrame_known {bytes : List Byte} {addr k : Nat} {e : Entry} {f : Frame} (harriving : s.frameArriving = true)
    (haddr : addr ≠ s.conf.address) (hslotOf : s.slotOf addr = some k) (hslot : s.slot k = some e) (hst : s.planner.st = .idle)
    (hprec : s.planner.prec = []) (hvalid : validateFrame s.conf.feeder bytes = some (addr, f)) :
    s.receiveFrame bytes = (s.afterFrame.setSlot k (some (e.refresh.store f))).flagHold f := by
  rw [receiveFrame_valid harriving hvalid, State.frameHeard, if_neg (by exact haddr)]
  exact takeFrame_idle (s := s.afterFrame) (place_known hslotOf hslot) hst hprec

/-! ### Unknown peers (R111, R112) -/

/-- A frame from an unknown peer, given the slot it takes. -/
theorem receiveFrame_unknown {bytes : List Byte} {addr k : Nat} {old : Option Entry} {f : Frame} (harriving : s.frameArriving = true)
    (haddr : addr ≠ s.conf.address) (hst : s.planner.st = .idle) (hprec : s.planner.prec = [])
    (hvalid : validateFrame s.conf.feeder bytes = some (addr, f)) (hplace : s.place addr = some (k, Entry.create addr, old)) :
    s.receiveFrame bytes = (s.afterFrame.setSlot k (some ((Entry.create addr).store f))).flagHold f := by
  rw [receiveFrame_valid harriving hvalid, State.frameHeard, if_neg (by exact haddr)]
  exact takeFrame_idle (s := s.afterFrame) hplace hst hprec

/-- The first slot that answers a search. -/
theorem findIdx?_of_first {α : Type} {l : List α} {p : α → Bool} {k : Nat} {x : α} (hx : l[k]? = some x) (hp : p x = true)
    (hbefore : ∀ j < k, ∀ y, l[j]? = some y → p y = false) : l.findIdx? p = some k := by
  obtain ⟨hk, rfl⟩ := List.getElem?_eq_some_iff.mp hx
  refine List.findIdx?_eq_some_iff_getElem.mpr ⟨hk, hp, fun j hj => ?_⟩
  simpa using hbefore j hj _ (List.getElem?_eq_getElem (by omega))

/-- The empty slot, the lowest one. -/
theorem place_empty {addr k : Nat} (hslotOf : s.slotOf addr = none) (hk : s.nbrs[k]? = some none)
    (hbefore : ∀ j < k, s.nbrs[j]? ≠ some none) : s.place addr = some (k, Entry.create addr, none) := by
  have hempty : s.emptySlot = some k := findIdx?_of_first hk rfl fun j hj y hy => by
    cases y with
    | none => exact absurd hy (hbefore j hj)
    | some e => rfl
  rw [State.place, hslotOf]
  dsimp only
  rw [hempty]

/-- The greatest age among STALE entries. -/
theorem oldestStale_fold (l : List (Option Entry)) (b : Option Nat) (a : Nat)
    (hle : ∀ e, some e ∈ l → e.fresh = false → e.age ≤ a) (hb : b.getD 0 ≤ a)
    (hex : (∃ e, some e ∈ l ∧ e.fresh = false ∧ e.age = a) ∨ b = some a) :
    l.foldl (fun best e =>
      match e with
      | some x => if x.fresh then best else some (max x.age (best.getD 0))
      | none => best) b = some a := by
  induction l generalizing b with
  | nil =>
    rcases hex with ⟨e, he, -⟩ | hb
    · simp at he
    · exact hb
  | cons x l ih =>
    have hle' : ∀ e, some e ∈ l → e.fresh = false → e.age ≤ a := fun e he => hle e (List.mem_cons_of_mem _ he)
    rw [List.foldl_cons]
    cases x with
    | none =>
      exact ih b hle' hb (hex.imp_left fun ⟨e, he, hstale⟩ => ⟨e, by simpa using he, hstale⟩)
    | some y =>
      by_cases hf : y.fresh = true
      · rw [show (match some y with | some x => if x.fresh then b else some (max x.age (b.getD 0)) | none => b) = b from if_pos hf]
        refine ih b hle' hb (hex.imp_left fun ⟨e, he, hstale, hage⟩ => ⟨e, ?_, hstale, hage⟩)
        rcases List.mem_cons.mp he with heq | hmem
        · obtain rfl : e = y := Option.some.inj heq
          exact absurd hf (by simp [hstale])
        · exact hmem
      · rw [show (match some y with | some x => if x.fresh then b else some (max x.age (b.getD 0)) | none => b)
          = some (max y.age (b.getD 0)) from if_neg hf]
        have hy : y.age ≤ a := hle y (by simp) (by simpa using hf)
        refine ih _ hle' (by simp [hy, hb]) ?_
        rcases hex with ⟨e, he, hstale, hage⟩ | rfl
        · rcases List.mem_cons.mp he with heq | hmem
          · obtain rfl : e = y := Option.some.inj heq
            right
            rw [Option.some_inj]
            omega
          · exact .inl ⟨e, hmem, hstale, hage⟩
        · right
          rw [Option.getD_some, max_eq_right hy]

theorem emptySlot_eq_none (hfull : ∀ x ∈ s.nbrs, x ≠ none) : s.emptySlot = none :=
  List.findIdx?_eq_none_iff.mpr fun x hx => by
    cases x with
    | none => exact absurd rfl (hfull none hx)
    | some e => rfl

/-- The oldest STALE entry, the lowest of equals, gives its slot up when the table is full (R112). -/
theorem place_oldest {addr k : Nat} {old : Entry} (hslotOf : s.slotOf addr = none) (hfull : ∀ x ∈ s.nbrs, x ≠ none)
    (hk : s.nbrs[k]? = some (some old)) (hstale : old.fresh = false)
    (holdest : ∀ j e, s.nbrs[j]? = some (some e) → e.fresh = false → e.age < old.age ∨ (e.age = old.age ∧ k ≤ j)) :
    s.place addr = some (k, Entry.create addr, some old) := by
  have hage : s.oldestStale = some old.age := by
    refine oldestStale_fold s.nbrs none old.age (fun e he hf => ?_) (Nat.zero_le _) (.inl ⟨old, List.mem_of_getElem? hk, hstale, rfl⟩)
    obtain ⟨j, hj⟩ := List.mem_iff_getElem?.mp he
    rcases holdest j e hj hf with hlt | ⟨heq, -⟩
    · exact hlt.le
    · exact heq.le
  have hslot : s.replaceableSlot = some k := by
    rw [State.replaceableSlot, hage]
    refine findIdx?_of_first hk (by simp [hstale]) fun j hj y hy => ?_
    cases y with
    | none => rfl
    | some e =>
      have hnot : ¬(e.fresh = false ∧ e.age = old.age) := fun ⟨hf, ha⟩ => by
        rcases holdest j e hy hf with hlt | ⟨-, hle⟩ <;> omega
      cases hf : e.fresh with
      | true => simp [hf]
      | false =>
        have hne : e.age ≠ old.age := fun ha => hnot ⟨hf, ha⟩
        simp [hne]
  have hold : s.slot k = some old := by
    rw [State.slot, List.getD_eq_getElem?_getD, hk]
    rfl
  rw [State.place, hslotOf]
  dsimp only
  rw [emptySlot_eq_none hfull, hslot, ← hold]
  rfl

/-- A table full of FRESH entries has no slot to give (R112). -/
theorem place_full {addr : Nat} (hslotOf : s.slotOf addr = none) (hfull : ∀ x ∈ s.nbrs, ∃ e, x = some e ∧ e.fresh = true) :
    s.place addr = none := by
  have hempty : s.emptySlot = none := emptySlot_eq_none fun x hx => by
    obtain ⟨e, rfl, -⟩ := hfull x hx
    exact Option.some_ne_none e
  have hrepl : s.replaceableSlot = none := by
    cases hage : s.oldestStale with
    | none => rw [State.replaceableSlot, hage]
    | some a =>
      rw [State.replaceableSlot, hage]
      refine List.findIdx?_eq_none_iff.mpr fun x hx => ?_
      obtain ⟨e, rfl, hf⟩ := hfull x hx
      simp [hf]
  rw [State.place, hslotOf]
  dsimp only
  rw [hempty, hrepl]
  rfl

theorem receiveFrame_ignored {bytes : List Byte} {addr : Nat} {f : Frame} (harriving : s.frameArriving = true)
    (haddr : addr ≠ s.conf.address) (hvalid : validateFrame s.conf.feeder bytes = some (addr, f)) (hplace : s.place addr = none) :
    s.receiveFrame bytes = s.afterFrame.setFlag .tableFull := by
  rw [receiveFrame_valid harriving hvalid, State.frameHeard, if_neg (by exact haddr), State.takeFrame,
    show s.afterFrame.place addr = none from hplace]

/-! ### The ends that the table's rows take (R118 to R121, R135) -/

/-- An entry that goes, or goes STALE, takes its pairs off the precedence list; outside HELD that is all (R118, R119, R135). -/
theorem entryGone_notices (t : State) (addr : Nat) (i : Option PIntent) (hst : t.planner.st ≠ .held) :
    (t.onEntryGone addr).onCleared addr i
      = { t with planner := { t.planner with prec := t.planner.prec.filter fun x => !(x.addr == addr) } } := by
  have hgone : t.onEntryGone addr = { t with planner := { t.planner with prec := t.planner.prec.filter fun x => !(x.addr == addr) } } :=
    removePairs_eq _ hst
  cases i with
  | none => exact hgone
  | some x =>
    have htwice : ((t.planner.prec.filter fun y => !(y.addr == addr)).filter fun y => !(y.addr == addr && y.num == x.num))
        = t.planner.prec.filter fun y => !(y.addr == addr) := by
      rw [List.filter_filter]
      refine List.filter_congr fun y _ => ?_
      cases y.addr == addr <;> simp
    rw [hgone]
    refine (removePairs_eq _ (by exact hst)).trans ?_
    dsimp only
    rw [htwice]

theorem staleAge_eq {k : Nat} {e : Entry} (hslot : s.slot k = some e) (hst : s.planner.st ≠ .held) (hf : e.fresh = true)
    (hage : 3 * s.conf.report ≤ e.age) :
    s.staleAge k = { s with
      nbrs := s.nbrs.set k (some e.staled)
      planner := { s.planner with prec := s.planner.prec.filter fun x => !(x.addr == e.addr) } } := by
  rw [State.staleAge, hslot]
  dsimp only
  rw [if_pos ⟨hf, by exact hage⟩, entryGone_notices _ _ _ (by exact hst)]
  exact onPeerHold_not_new (peerHeld_of_set (s := s) (k := k) (x := some e.staled) rfl)

theorem forgetAge_eq {k : Nat} {e : Entry} (hslot : s.slot k = some e) (hst : s.planner.st ≠ .held)
    (hage : 10 * s.conf.report ≤ e.age) :
    s.forgetAge k = { s with
      nbrs := s.nbrs.set k none
      planner := { s.planner with prec := s.planner.prec.filter fun x => !(x.addr == e.addr) } } := by
  rw [State.forgetAge, hslot]
  dsimp only
  rw [if_pos (by exact hage), entryGone_notices _ _ _ (by exact hst)]
  exact onPeerHold_not_new (peerHeld_of_set (s := s) (k := k) (x := none) rfl)

theorem intentLifetimeEnd_eq {k : Nat} {e : Entry} {i : PIntent} (hslot : s.slot k = some e) (hst : s.planner.st ≠ .held)
    (hf : e.fresh = true) (hi : e.intent = some i) (hlife : i.life = 0) :
    s.intentLifetimeEnd k = { s with
      nbrs := s.nbrs.set k (some { e with intent := none })
      planner := { s.planner with prec := s.planner.prec.filter fun x => !(x.addr == e.addr && x.num == i.num) } } := by
  rw [State.intentLifetimeEnd, hslot]
  dsimp only
  rw [if_pos ⟨hf, by simp [hi, hlife]⟩, hi]
  exact removePairs_eq _ (by exact hst)

theorem peerHoldEnd_eq {k : Nat} {e : Entry} {h : PHold} (hslot : s.slot k = some e) (hf : e.fresh = true) (hh : e.hold = some h)
    (hleft : h.left = 0) : s.peerHoldEnd k = { s with nbrs := s.nbrs.set k (some { e with hold := none }) } := by
  rw [State.peerHoldEnd, hslot]
  exact if_pos ⟨hf, by simp [hh, hleft]⟩

end Sys2Proof.Machine

namespace Sys2Proof.Proofs
open Sys2Proof.Machine

/-- Settles O37: each kind of frame is stored in the refreshed entry, and no notice reaches an IDLE planner. -/
theorem knownPeerFrameIsStored : Obligations.KnownPeerFrameIsStored := by
  intro bytes addr k e s hp harriving haddr hslotOf hslot hst hprec
  dsimp only
  have hrow (f : Frame) (hvalid : validateFrame s.conf.feeder bytes = some (addr, f)) :=
    receiveFrame_known harriving haddr hslotOf hslot hst hprec hvalid
  refine ⟨fun b hb => ?_, fun b hb => ?_, fun b hb => ?_, fun b hb => ?_⟩
  · exact next_powered hp ((hrow _ hb).trans (by rw [store_refresh_load]; rfl))
  · exact next_powered hp (hrow _ hb)
  · exact next_powered hp ((hrow _ hb).trans (by rw [store_refresh_outcome]; rfl))
  · exact next_powered hp ((hrow _ hb).trans (by rw [store_refresh_hold]; rfl))

/-- Settles O38: where an unknown peer is stored is `place`, split as R111 and R112 split it. -/
theorem unknownPeersClashesAndBadFrames : Obligations.UnknownPeersClashesAndBadFrames := by
  refine ⟨fun c bytes addr f s hp harriving hc haddr hslotOf hvalid hst hprec => ?_, fun bytes s hp harriving => ⟨fun hbad => ?_, fun f hvalid c hc => ?_⟩⟩
  · have hexec : exec c s = .next (powered (State.receiveFrame bytes) s) := by rcases hc with rfl | rfl | rfl | rfl <;> rfl
    rw [hexec]
    refine ⟨fun k hk hbefore => ?_, fun k old hfull hk hstale holdest => ?_, fun hfull => ?_⟩
    · refine next_powered hp ((receiveFrame_unknown harriving haddr hst hprec hvalid (place_empty hslotOf hk hbefore)).trans ?_)
      cases f with
      | load b => rw [store_create_load]; rfl
      | intent b | outcome b | hold b => rfl
    · refine next_powered hp ((receiveFrame_unknown harriving haddr hst hprec hvalid
        (place_oldest hslotOf hfull hk hstale holdest)).trans ?_)
      cases f with
      | load b => rw [store_create_load]; rfl
      | intent b | outcome b | hold b => rfl
    · exact next_powered hp (receiveFrame_ignored harriving haddr hvalid (place_full hslotOf hfull))
  · exact next_powered hp (receiveFrame_bad harriving hbad)
  · have hexec : exec c s = .next (powered (State.receiveFrame bytes) s) := by rcases hc with rfl | rfl | rfl | rfl <;> rfl
    rw [hexec]
    exact next_powered hp ((receiveFrame_valid harriving hvalid).trans (if_pos rfl))

/-- Settles O39: each row takes the end its block still has, and the table's rows their notices, which release no planner. -/
theorem rowsTakeEndsTheTickLeft : Obligations.RowsTakeEndsTheTickLeft := by
  refine ⟨fun s hp => ⟨?_, ?_, ?_⟩, fun k e s hp hslot hst => ⟨fun hf hage => ?_, fun hage => ?_, fun i hf hi hlife => ?_, fun h hf hh hleft => ?_⟩⟩
  · refine next_powered hp (f := State.samplingEnd) ?_
    rw [State.samplingEnd, State.modBudget, Budget.samplingEnd]
    split <;> rfl
  · refine next_powered hp (f := State.monitoringEnd) ?_
    rw [State.monitoringEnd, State.modBudget, Budget.monitoringEnd]
    split <;> rfl
  · refine next_powered hp (f := State.throttleEnd) ?_
    rw [State.throttleEnd, State.modBudget, Budget.throttleEnd]
    split
    next h => rw [← h.2]
    next => rfl
  · exact next_powered hp (staleAge_eq hslot hst hf hage)
  · exact next_powered hp (forgetAge_eq hslot hst hage)
  · exact next_powered hp (intentLifetimeEnd_eq hslot hst hf hi hlife)
  · exact next_powered hp (peerHoldEnd_eq hslot hf hh hleft)

end Sys2Proof.Proofs


/-! The service link's requests and its receive state: what each read shows, what each request that acts leaves, what a refusal leaves, and
how the bytes after a start byte are gathered or dropped (chapter 11, section 12.4). -/

namespace Sys2Proof.Machine

variable {s t : State}

/-! ### A request row that is taken -/

/-- A request that fits in a frame, taken in IDLE or RECEIVING: its row answers it. -/
theorem next_request {k : Byte} {p : List Byte} {d : List Byte → State → Decision} (hp : s.pins.pornLow = false)
    (hr : s.svc.rx = .idle ∨ s.svc.rx = .receiving) (hl : p.length ≤ 19) :
    (Host.Outcome.next (powered (State.takeRequest k p d) s) : Host.Outcome State Fault Refusal) = .next (State.respond k (d p s)) :=
  next_powered hp (takeRequest_eq_respond k d hl hr)

/-- A whole request that comes while a response goes out is dropped (R178). -/
theorem takeRequest_responding (k : Byte) {p : List Byte} (d : List Byte → State → Decision) (hl : p.length ≤ 19)
    (hr : s.svc.rx = .responding) : s.takeRequest k p d = s.setOverrun := by
  unfold State.takeRequest
  rw [if_neg (Nat.not_lt.mpr hl), hr]

/-! ### Refusals (R169, R179) -/

/-- A decision that refuses leaves the state. -/
def RefusalKeeps (d : Decision) (s : State) : Prop := (∀ data, d.1 ≠ .ok data) → d.2 = s

theorem refusalKeeps_self (a : Answer) (s : State) : RefusalKeeps (a, s) s := fun _ => rfl

theorem refusalKeeps_ok (data : List Byte) (t s : State) : RefusalKeeps (.ok data, t) s := fun h => absurd rfl (h data)

theorem refusalKeeps_ite {c : Prop} [Decidable c] {d e : Decision} (hd : RefusalKeeps d s) (he : RefusalKeeps e s) :
    RefusalKeeps (if c then d else e) s := by
  split
  · exact hd
  · exact he

theorem unlocked_refusalKeeps {d : State → Decision} (h : RefusalKeeps (d s) s) : RefusalKeeps (unlocked d s) s :=
  refusalKeeps_ite h (refusalKeeps_self _ _)

theorem release_refusalKeeps (i : Nat) (s : State) : RefusalKeeps (s.release i) s := by
  unfold State.release
  split
  · exact refusalKeeps_ite (refusalKeeps_ok _ _ _) (refusalKeeps_ok _ _ _)
  · exact refusalKeeps_ok _ _ _
  all_goals exact refusalKeeps_self _ _

theorem decideRelease_refusalKeeps (p : List Byte) (s : State) : RefusalKeeps (decideRelease p s) s := by
  refine unlocked_refusalKeeps ?_
  split
  · exact refusalKeeps_ite (refusalKeeps_ite (refusalKeeps_self _ _) (release_refusalKeeps _ _)) (refusalKeeps_self _ _)
  · exact refusalKeeps_self _ _

theorem decideOverride_refusalKeeps (p : List Byte) (s : State) : RefusalKeeps (decideOverride p s) s := by
  refine unlocked_refusalKeeps ?_
  split
  · split
    · exact refusalKeeps_ite (refusalKeeps_ite (refusalKeeps_ite (refusalKeeps_ok _ _ _) (refusalKeeps_self _ _))
        (refusalKeeps_self _ _)) (refusalKeeps_self _ _)
    · exact refusalKeeps_self _ _
  · exact refusalKeeps_self _ _

theorem decideHold_refusalKeeps (p : List Byte) (s : State) : RefusalKeeps (decideHold p s) s := by
  refine unlocked_refusalKeeps ?_
  dsimp only
  split
  · exact refusalKeeps_ite (refusalKeeps_ite (refusalKeeps_ok _ _ _) (refusalKeeps_self _ _)) (refusalKeeps_self _ _)
  · exact refusalKeeps_self _ _

/-- Whatever request a kind byte names, its refusal changes no state (R179). -/
theorem decideKind_refusalKeeps (kind : Byte) (p : List Byte) (s : State) : RefusalKeeps (decideKind kind p s) s := by
  have hall : ∀ d ∈ decisions, RefusalKeeps (d p s) s := by
    simp only [decisions, List.forall_mem_cons]
    exact ⟨fun _ => decideStatus_state p s,
      fun _ => decideReadConnection_state p s,
      fun _ => decideReadNeighbour_state p s,
      unlocked_refusalKeeps (refusalKeeps_ite (refusalKeeps_ok _ _ _) (refusalKeeps_self _ _)),
      unlocked_refusalKeeps (refusalKeeps_ite (refusalKeeps_ok _ _ _) (refusalKeeps_self _ _)),
      decideRelease_refusalKeeps p s,
      decideOverride_refusalKeeps p s,
      unlocked_refusalKeeps (refusalKeeps_ite (refusalKeeps_ok _ _ _) (refusalKeeps_self _ _)),
      decideHold_refusalKeeps p s,
      unlocked_refusalKeeps (refusalKeeps_ite (refusalKeeps_ok _ _ _) (refusalKeeps_self _ _)),
      fun _ => decideIdent_state p s,
      fun _ => decideUnknown_state p s,
      fun _ h => nomatch h⟩
  exact hall _ (decideKind_mem_decisions kind)

/-- Step 1 of R179: in LOADING and CONFIG_FAULT every request but STATUS and IDENT is LOCKED. -/
theorem decideKind_locked {kind : Byte} (p : List Byte) (hw : s.mode.working = false) (h1 : kind ≠ 1) (h11 : kind ≠ 11) :
    decideKind kind p s = (.locked, s) := by
  have hnot {k : Byte} (hk : kind ≠ k) : kind.toNat ≠ k.toNat := fun h => hk (BitVec.eq_of_toNat_eq h)
  have hform : ∃ d : List Byte → State → Decision, decideKind kind = fun p => unlocked (d p) := by
    unfold decideKind
    split
    case h_1 h => exact absurd h (hnot h1)
    case h_11 h => exact absurd h (hnot h11)
    all_goals exact ⟨_, rfl⟩
  obtain ⟨d, hd⟩ := hform
  rw [hd]
  exact if_neg (by simp [hw])

/-- A kind byte that names no request is decided as an unknown one (R179). -/
theorem decideKind_unknown {kind : Byte} (p : List Byte) (s : State) (h : kind.toNat = 0 ∨ 11 < kind.toNat) :
    decideKind kind p s = (if s.mode.working then (.badRequest, s) else (.locked, s)) := by
  have hform : decideKind kind = decideUnknown := by
    unfold decideKind
    split
    case h_12 => rfl
    all_goals omega
  rw [hform]
  rfl

/-! ### Flags cleared (R156, R157, R182) -/

theorem foldl_or_twoPow (codes : List Nat) (m : BitVec 19) {n : Nat} (hn : n < 19) :
    (codes.foldl (fun m k => m ||| BitVec.twoPow 19 k) m).getLsbD n = (m.getLsbD n || codes.contains n) := by
  induction codes generalizing m with
  | nil => simp
  | cons c codes ih =>
    rw [List.foldl_cons, ih, BitVec.getLsbD_or, BitVec.getLsbD_twoPow, List.contains_cons, Bool.or_assoc]
    congr 2
    by_cases hc : n = c
    · subst hc
      simp [hn]
    · rw [beq_false_of_ne hc, decide_eq_false (Ne.symm hc), Bool.and_false]

/-- A flag mask holds the flags its codes name. -/
theorem flagMask_getLsbD (codes : List Nat) {n : Nat} (hn : n < 19) : (flagMask codes).getLsbD n = codes.contains n := by
  rw [flagMask, foldl_or_twoPow codes 0 hn]
  simp

theorem Flag.code_lt (f : Flag) : f.code < 19 := by cases f <;> decide

/-- A byte names a flag when it is the flag's code. -/
theorem contains_toNat (codes : List Byte) {n : Nat} (hn : n < 19) :
    (codes.map (·.toNat)).contains n = codes.contains (BitVec.ofNat 8 n) := by
  have hiff (b : Byte) : b.toNat = n ↔ b = BitVec.ofNat 8 n := by
    rw [← BitVec.toNat_inj, BitVec.toNat_ofNat]
    omega
  rw [Bool.eq_iff_iff]
  simp [hiff]

theorem clearFlags_flagSet (codes : List Byte) (s : State) (f : Flag) :
    (s.clearFlags (flagMask (codes.map (·.toNat)))).flagSet f = (s.flagSet f && !codes.contains (BitVec.ofNat 8 f.code)) := by
  rw [State.flagSet, State.clearFlags_flags, BitVec.getLsbD_and, BitVec.getLsbD_not, flagMask_getLsbD _ f.code_lt,
    contains_toNat codes f.code_lt]
  simp [f.code_lt, State.flagSet]

theorem clearFlags_all (s : State) : s.clearFlags s.flags = { s with flags := 0 } := by
  have hz : s.flags &&& ~~~s.flags = 0 := by simp
  rw [State.clearFlags, hz]

/-! ### The bytes after a start byte (R177, R178, R189) -/

theorem afterFrameBytes_long {len : Byte} (bytes : List Byte) (h : 19 < len.toNat) : afterFrameBytes (len :: bytes) = some bytes :=
  if_pos h

theorem afterFrameBytes_short {len : Byte} {bytes : List Byte} (h : len.toNat ≤ 19) (hl : bytes.length < len.toNat + 3) :
    afterFrameBytes (len :: bytes) = none :=
  (if_neg (by omega)).trans (if_pos hl)

theorem afterFrameBytes_whole {len : Byte} {bytes : List Byte} (h : len.toNat ≤ 19) (hl : bytes.length = len.toNat + 3) :
    afterFrameBytes (len :: bytes) = some [] := by
  refine (if_neg (by omega)).trans ((if_neg (by omega)).trans ?_)
  rw [List.drop_of_length_le (by omega)]

/-- A frame takes at least its length byte. -/
theorem afterFrameBytes_length {bytes rest : List Byte} (h : afterFrameBytes bytes = some rest) : rest.length < bytes.length := by
  cases bytes with
  | nil => cases h
  | cons len more =>
    simp only [afterFrameBytes] at h
    split at h
    · cases h
      simp
    · split at h
      · cases h
      · cases h
        simp only [List.length_drop, List.length_cons]
        omega

theorem nextStart_length {bytes more : List Byte} (h : nextStart bytes = some more) : more.length < bytes.length := by
  unfold nextStart at h
  split at h
  next x rest hd =>
    cases h
    have hle : (bytes.dropWhile (· != 0x7E)).length ≤ bytes.length := (List.dropWhile_suffix _).length_le
    rw [hd, List.length_cons] at hle
    omega
  next => cases h

theorem nextStart_none {bytes : List Byte} (h : 0x7E ∉ bytes) : nextStart bytes = none := by
  have hd : bytes.dropWhile (· != 0x7E) = [] := List.dropWhile_eq_nil_iff.mpr fun b hb => by
    simpa using fun heq : b = 0x7E => h (heq ▸ hb)
  rw [nextStart, hd]

theorem nextStart_skipped {skipped : List Byte} (more : List Byte) (h : 0x7E ∉ skipped) :
    nextStart (skipped ++ 0x7E :: more) = some more := by
  have hd : (skipped ++ 0x7E :: more).dropWhile (· != 0x7E) = 0x7E :: more := by
    rw [List.dropWhile_append_of_pos fun b hb => by simpa using fun heq : b = 0x7E => h (heq ▸ hb)]
    rfl
  rw [nextStart, hd]

/-- As many frames looked at as there are bytes, and one: more make no difference. -/
theorem gatherFrom_enough (n m : Nat) (bytes : List Byte) (hn : bytes.length < n) (hm : bytes.length < m) :
    gatherFrom n bytes = gatherFrom m bytes := by
  induction n generalizing m bytes with
  | zero => omega
  | succ n ih =>
    obtain ⟨m, rfl⟩ : ∃ k, m = k + 1 := ⟨m - 1, by omega⟩
    simp only [gatherFrom]
    cases ha : afterFrameBytes bytes with
    | none => rfl
    | some rest =>
      dsimp only
      split
      · rfl
      · cases hs : nextStart rest with
        | none => rfl
        | some more =>
          have hrest := afterFrameBytes_length ha
          have hmore := nextStart_length hs
          exact ih m more (by omega) (by omega)

theorem gathered_arriving {bytes : List Byte} (h : afterFrameBytes bytes = none) : gathered bytes = .arriving := by
  rw [gathered, gatherFrom, h]

/-- A frame that is no request is forgotten, and no other start byte follows. -/
theorem gathered_nothing {bytes rest : List Byte} (h : afterFrameBytes bytes = some rest)
    (hf : serviceFrame? (bytes.take (bytes.length - rest.length)) = none) (hs : nextStart rest = none) : gathered bytes = .nothing := by
  rw [gathered, gatherFrom, h]
  dsimp only
  rw [hf]
  dsimp only
  rw [hs]

/-- A frame that is no request is forgotten, and the next start byte begins another. -/
theorem gathered_next {bytes rest more : List Byte} (h : afterFrameBytes bytes = some rest)
    (hf : serviceFrame? (bytes.take (bytes.length - rest.length)) = none) (hs : nextStart rest = some more) :
    gathered bytes = gathered more := by
  have hrest := afterFrameBytes_length h
  have hmore := nextStart_length hs
  rw [gathered, gatherFrom, h]
  dsimp only
  rw [hf]
  dsimp only
  rw [hs]
  exact gatherFrom_enough _ _ _ (by omega) (by omega)

theorem serviceFrame?_length_alone (len : Byte) (bytes : List Byte) :
    serviceFrame? ((len :: bytes).take ((len :: bytes).length - bytes.length)) = none := by
  have hone : (len :: bytes).length - bytes.length = 1 := by simp
  rw [hone]
  rfl

/-- Bytes taken in IDLE or RECEIVING, by what they are gathered to. -/
theorem takeFrameBytes_gathered (bytes : List Byte) (hr : s.svc.rx = .idle ∨ s.svc.rx = .receiving) :
    s.takeFrameBytes bytes = match gathered bytes with
      | .nothing => s.setRx .idle
      | .arriving => s.setRx .receiving
      | .request kind payload rest => (State.respond kind (decideKind kind payload s)).dropRest rest := by
  unfold State.takeFrameBytes
  rcases hr with hr | hr <;> rw [hr] <;> cases gathered bytes <;> rfl

theorem takeFrameBytes_responding (bytes : List Byte) (hr : s.svc.rx = .responding) : s.takeFrameBytes bytes = s.dropFrame bytes := by
  unfold State.takeFrameBytes
  rw [hr]

theorem dropFrame_eq {bytes : List Byte} {b : Bool} (h : droppedFrom (bytes.length + 1) bytes = b) :
    s.dropFrame bytes = { s with svc := { s.svc with overrun := true, dropping := s.svc.dropping || b } } := by
  rw [← h]
  rfl

theorem droppedFrom_arriving {bytes : List Byte} (h : afterFrameBytes bytes = none) (n : Nat) : droppedFrom (n + 1) bytes = true := by
  rw [droppedFrom, h]

theorem droppedFrom_over {bytes rest : List Byte} (h : afterFrameBytes bytes = some rest) (hs : nextStart rest = none) (n : Nat) :
    droppedFrom (n + 1) bytes = false := by
  rw [droppedFrom, h]
  dsimp only
  rw [hs]

end Sys2Proof.Machine

namespace Sys2Proof.Proofs
open Sys2Proof.Machine

/-- Settles O50: READ EVENTS and CLEAR EVENTS as they are decided, the flags told one by one. -/
theorem eventRequestsClearFlags : Obligations.EventRequestsClearFlags := by
  intro codes s hp hr hw
  refine ⟨?_, fun hl => ⟨_, next_request hp hr hl, fun hall => ?_, fun hall => ?_⟩⟩
  · have hdecided : decideReadEvents [] s = (.ok (bytes3 s.flags.toNat), { s with flags := if s.conf.manual then s.flags else 0 }) := by
      refine (unlocked_of_working _ hw).trans ((if_pos rfl).trans ?_)
      cases s.conf.manual with
      | true => rfl
      | false => exact congrArg (Prod.mk _) (clearFlags_all s)
    refine (next_request hp hr (by simp)).trans ?_
    rw [hdecided]
    rfl
  · have hnamed : (codes.all fun b => decide (b.toNat < 19)) = true := by simpa using hall
    have hdecided : decideClearEvents codes s
        = (.ok [], (s.clearFlags (flagMask (codes.map (·.toNat)))).modSvc fun v => { v with overrun := false }) :=
      (unlocked_of_working _ hw).trans (if_pos hnamed)
    rw [hdecided]
    exact ⟨rfl, fun f => clearFlags_flagSet codes s f⟩
  · have hnamed : ¬(codes.all fun b => decide (b.toNat < 19)) = true := by simpa using hall
    have hdecided : decideClearEvents codes s = (.badRequest, s) := (unlocked_of_working _ hw).trans (if_neg hnamed)
    rw [hdecided]
    rfl

/-- Settles O52: OVERRIDE, LOCK and HOLD as they are decided; an IDLE planner makes nothing of becoming held. -/
theorem overrideLockAndHoldRequests : Obligations.OverrideLockAndHoldRequests := by
  refine ⟨fun i a attr s hp hr hw => ⟨fun hi ha => ?_, ?_⟩, fun hi lo s hp hr hw hidle => ?_⟩
  · have hdecided : decideOverride [i, a] s =
        if s.station.overridesOpen then
          if s.configured i.toNat && (s.conn i.toNat).st != .moving then (.ok [], s.setOverride i.toNat attr) else (.notApplicable, s)
        else (.locked, s) := by
      refine (unlocked_of_working _ hw).trans ?_
      dsimp only
      rw [ha]
      exact if_pos hi
    refine (next_request hp hr (by simp)).trans ?_
    rw [hdecided]
    cases s.station.overridesOpen with
    | false => rfl
    | true =>
      by_cases hc : s.configured i.toNat = true ∧ (s.conn i.toNat).st ≠ .moving
      · have hcond : (s.configured i.toNat && (s.conn i.toNat).st != .moving) = true := by simpa using hc
        rw [if_pos rfl, if_pos hcond, if_neg (by simp), if_pos hc]
        rfl
      · have hcond : ¬(s.configured i.toNat && (s.conn i.toNat).st != .moving) = true := by simpa using hc
        rw [if_pos rfl, if_neg hcond, if_neg (by simp), if_neg hc]
        rfl
  · have hdecided : decideLock [] s = (.ok [], s.modStation fun x => { x with overridesOpen := false }) :=
      unlocked_of_working _ hw
    refine (next_request hp hr (by simp)).trans ?_
    rw [hdecided]
    rfl
  · dsimp only
    refine (next_request hp hr (by simp)).trans ?_
    have hdecided : decideHold [hi, lo] s =
        if 10 ≤ (bytesWord hi lo).toNat ∧ (bytesWord hi lo).toNat ≤ 600 then
          if s.isActive then (.ok [], s.issueHold (bytesWord hi lo).toNat .service) else (.notApplicable, s)
        else (.badRequest, s) := unlocked_of_working _ hw
    rw [hdecided]
    generalize (bytesWord hi lo).toNat = d
    by_cases hd : d < 10 ∨ 600 < d
    · rw [if_pos hd, if_neg (by omega)]
      rfl
    rw [if_neg hd, if_pos (by omega)]
    by_cases hm : s.mode ≠ .active
    · have hnot : ¬s.isActive = true := by simpa [State.isActive] using hm
      rw [if_pos hm, if_neg hnot]
      rfl
    · have hactive : s.isActive = true := by simpa [State.isActive] using hm
      rw [if_neg hm, if_pos hactive, issueHold_idle hidle, State.offerHold, State.offer, if_pos (by exact hactive)]
      rfl

/-- Settles O53: refusals by their request, and the row of an unknown kind through step 1 of R179. -/
theorem refusedRequestsChangeNothing : Obligations.RefusedRequestsChangeNothing := by
  intro kind payload s
  refine ⟨decideKind_refusalKeeps kind payload s, decideKind_locked payload, fun hp hr hl hk => ?_⟩
  refine (next_request hp hr hl).trans ?_
  rw [decideKind_unknown payload s hk]
  cases s.mode.working <;> rfl

/-- Settles O54: what the bytes after a start byte have come to, and each event by the receive state it finds. -/
theorem receiveStateFollowsTheFrames : Obligations.ReceiveStateFollowsTheFrames := by
  intro len bytes s hp
  dsimp only
  have hrow {t : State} {b : List Byte} (h : s.takeFrameBytes b = t) : exec (.malformedFrame b) s = .next t := next_powered hp h
  refine ⟨fun hr => ⟨fun h hl => ?_, fun h hl hf => ?_, fun h hnone => ?_, fun skipped more h hb hskip => ?_⟩,
    fun hr => ⟨fun h hl => ?_, fun h hl => ?_, fun h hnone => ?_, fun hl => ?_⟩, fun hr => ⟨?_, ?_⟩, ?_, ?_⟩
  · refine hrow ((takeFrameBytes_gathered _ hr).trans ?_)
    rw [gathered_arriving (afterFrameBytes_short h hl)]
    rfl
  · refine hrow ((takeFrameBytes_gathered _ hr).trans ?_)
    have hwhole : serviceFrame? ((len :: bytes).take ((len :: bytes).length - ([] : List Byte).length)) = none := by simpa using hf
    rw [gathered_nothing (afterFrameBytes_whole h hl) hwhole rfl]
    rfl
  · refine hrow ((takeFrameBytes_gathered _ hr).trans ?_)
    rw [gathered_nothing (afterFrameBytes_long bytes h) (serviceFrame?_length_alone len bytes) (nextStart_none hnone)]
    rfl
  · subst hb
    have hsame := gathered_next (afterFrameBytes_long _ h) (serviceFrame?_length_alone len _) (nextStart_skipped more hskip)
    rw [hrow ((takeFrameBytes_gathered _ hr).trans (by rw [hsame])), hrow (takeFrameBytes_gathered more hr)]
  · exact hrow ((takeFrameBytes_responding _ hr).trans (dropFrame_eq (droppedFrom_arriving (afterFrameBytes_short h hl) _)))
  · exact hrow ((takeFrameBytes_responding _ hr).trans (dropFrame_eq (droppedFrom_over (afterFrameBytes_whole h hl) rfl _)))
  · exact hrow ((takeFrameBytes_responding _ hr).trans
      (dropFrame_eq (droppedFrom_over (afterFrameBytes_long bytes h) (nextStart_none hnone) _)))
  · refine next_powered hp ((takeRequest_responding 1 decideStatus hl hr).trans ?_)
    rw [Bool.or_false]
    rfl
  · refine hrow ?_
    rw [State.takeFrameBytes, hr]
  · refine next_powered hp (f := State.droppedFrameEnd) ?_
    rw [State.droppedFrameEnd, hr]
    rfl
  · refine next_powered hp (f := State.byteGap) ?_
    cases hr : s.svc.rx <;> simp only [State.byteGap, State.droppedFrameEnd, hr]
    case idle => rw [← hr]
    case responding => rw [← hr]; rfl
    all_goals rfl
  · refine next_powered hp (f := State.startByte) ?_
    cases hr : s.svc.rx <;> simp only [State.startByte, hr]
    case receiving => rw [← hr]
    case responding => rw [← hr]; rfl
    all_goals rfl

end Sys2Proof.Proofs


/-! The requests that read: STATUS, IDENT, READ CONNECTION and READ NEIGHBOUR (R180, R181, R186). -/

namespace Sys2Proof.Machine

variable {s : State}

/-- A request answered OK that changes no state of its own (R177). -/
theorem next_read {k : Byte} {p data : List Byte} {d : List Byte → State → Decision} (hp : s.pins.pornLow = false)
    (hr : s.svc.rx = .idle ∨ s.svc.rx = .receiving) (hl : p.length ≤ 19) (hd : d p s = (.ok data, s)) :
    (Host.Outcome.next (powered (State.takeRequest k p d) s) : Host.Outcome State Fault Refusal)
      = .next { s with svc := { s.svc with rx := .responding }, out := .response (responseBytes k 0 data) :: s.out } := by
  rw [next_request hp hr hl, hd]
  rfl

theorem natByte_byte (i : Byte) : natByte i.toNat = i := BitVec.ofNat_toNat 8 i |>.trans (BitVec.setWidth_eq i)

/-- The revision letter is a capital letter (R186). -/
theorem revisionLetter_toNat : revisionLetter.toNat = 65 + Config.revision % 26 := by
  have hlt : Config.revision % 26 < 26 := Nat.mod_lt _ (by decide)
  rw [revisionLetter, BitVec.toNat_ofNat]
  omega

/-- Of an entry whose vector and counts are there together, all three parts are shown or none (R181). -/
theorem Entry.shown_of_whole {e : Entry} (h : e.vec.isSome = e.info.isSome) : e.shown = e.vec.isSome := by
  rw [Entry.shown, ← h]
  cases e.vec.isSome <;> rfl

theorem Entry.reportData_of_whole {e : Entry} (h : e.vec.isSome = e.info.isSome) :
    e.reportData = match e.vec, e.info with
      | some v, some x =>
        vecBytes v ++ [natByte x.counts.a, natByte x.counts.b, natByte x.counts.c,
          bitAt x.stale 0 ||| bitAt x.throttled 1 ||| bitAt x.executing 2]
      | _, _ => List.replicate 10 0 := by
  rw [Entry.reportData, Entry.shown_of_whole h]
  cases hv : e.vec with
  | none => rfl
  | some v =>
    cases hi : e.info with
    | none => simp [hv, hi] at h
    | some x => rfl

theorem decideReadConnection_ok {i : Byte} (hw : s.mode.working = true) (hi : i.toNat < 32) :
    decideReadConnection [i] s = (.ok (s.connectionData i.toNat), s) :=
  (unlocked_of_working _ hw).trans (if_pos hi)

theorem decideReadNeighbour_ok {i : Byte} (hw : s.mode.working = true) (hi : i.toNat < 16) :
    decideReadNeighbour [i] s = (.ok (s.neighbourData i.toNat), s) :=
  (unlocked_of_working _ hw).trans (if_pos hi)

theorem neighbourData_empty {i : Byte} (h : s.slot i.toNat = none) : s.neighbourData i.toNat = i :: List.replicate 32 0 := by
  rw [State.neighbourData, h, natByte_byte]

end Sys2Proof.Machine

namespace Sys2Proof.Proofs
open Sys2Proof.Machine

/-- Settles O49: each read's data are what the rules list, byte for byte. -/
theorem readRequestsShowTheState : Obligations.ReadRequestsShowTheState := by
  refine ⟨fun s hp hr => ⟨?_, revisionLetter, ?_, ?_, ?_⟩, fun i s hp hr hw => ⟨fun hi => ?_, fun hi => ⟨fun hslot => ?_, fun e hslot hwhole => ?_⟩⟩⟩
  · exact next_read hp hr (by simp) rfl
  · rw [revisionLetter_toNat]
    omega
  · have hlt : Config.revision % 26 < 26 := Nat.mod_lt _ (by decide)
    rw [revisionLetter_toNat]
    omega
  · refine next_read hp hr (by simp) ?_
    cases hc : s.cfg <;> simp [decideIdent, State.identData, hc]
  · refine next_read hp hr (by simp) ((decideReadConnection_ok hw hi).trans ?_)
    rw [State.connectionData, natByte_byte]
  · refine next_read hp hr (by simp) ((decideReadNeighbour_ok hw hi).trans ?_)
    rw [neighbourData_empty hslot]
  · refine next_read hp hr (by simp) ((decideReadNeighbour_ok hw hi).trans ?_)
    rw [State.neighbourData, hslot]
    dsimp only
    rw [Entry.shown_of_whole hwhole, Entry.reportData_of_whole hwhole, natByte_byte]
    cases e.vec <;> cases e.info <;> cases e.intent <;> cases e.hold <;> rfl

end Sys2Proof.Proofs


/-! The planner's own operations, value by value in ACTIVE, and its rows: evaluation, report, announce limit, and the end of LISTEN_ONLY
(chapter 8, section 10.3). -/

namespace Sys2Proof.Machine

variable {s t : State}

/-! ### Operations in ACTIVE -/

theorem isActive_iff : s.isActive = true ↔ s.mode = .active := by simp [State.isActive]

theorem offer_active (hmode : s.mode = .active) (f : Line → Line) : s.offer f = s.modQueue f := if_pos (isActive_iff.mpr hmode)

/-- The planner's return to IDLE, the number last concluded as it is (R127). -/
theorem plannerIdle_rests (hmode : s.mode = .active) : s.plannerIdle = s.plannerRests s.planner.last :=
  plannerIdle_active hmode s.planner.last

theorem withdraw_active {p : Plan} (hmode : s.mode = .active) (hplan : s.planner.plan = some p) : s.withdraw = s.withdrawn p := by
  have hoffer : s.offerOutcome s.planner.intentNo false p.allSkipped = s.modQueue fun l =>
      { l with qOutcome := some ⟨s.planner.intentNo, false, p.allSkipped, some s.meas.vec⟩ } := by
    rw [State.offerOutcome, offer_active hmode]
    rfl
  have hskipped : (s.planner.plan.map Plan.allSkipped).getD [] = p.allSkipped := by rw [hplan]; rfl
  rw [State.withdraw, hskipped, hoffer]
  exact plannerIdle_active (s := s.modQueue _) hmode (some s.planner.intentNo)

theorem announce_active (hmode : s.mode = .active) (moves : List Move) :
    s.announce moves =
      { s with
        planner :=
          { s.planner with
            st := .announcing
            intentNo := s.planner.intentNo + 1
            plan := some ⟨moves, moves.length, List.replicate moves.length none, 0⟩
            announceT := some s.conf.announce }
        line := Line.refresh s.pins.lcd
          { s.line with qIntent := some ⟨s.planner.intentNo + 1, s.conf.lifetime, moves.map fun m => ⟨m.src, m.dst, m.cur⟩⟩ } } := by
  rw [State.announce, if_pos (isActive_iff.mpr hmode), State.offerIntent, offer_active (by exact hmode)]
  rfl

/-- A plan is built from the records, the readings, the views and the settings: neither the line nor the planner enters it (R47). -/
theorem extendPlan_outside (l : Line) (p : Planner) (d n : Nat) (w : Vec) (ways : List Vec) (plan : List Move) :
    State.extendPlan { s with line := l, planner := p, draws := d } n w ways plan = s.extendPlan n w ways plan := by
  induction n generalizing w ways plan with
  | zero => rfl
  | succ n ih =>
    have hbest : State.bestCandidate { s with line := l, planner := p, draws := d } w ways plan = s.bestCandidate w ways plan := rfl
    simp only [State.extendPlan, hbest]
    cases s.bestCandidate w ways plan with
    | none => rfl
    | some x => exact congrArg (ite _ · _) (ih _ _ _)

theorem buildPlan_outside (l : Line) (p : Planner) (d : Nat) :
    State.buildPlan { s with line := l, planner := p, draws := d } = s.buildPlan :=
  extendPlan_outside l p d _ _ _ _

/-- An evaluation taken, its timer started afresh (R127, R129). -/
theorem evaluate_active (hmode : s.mode = .active) : s.startEval.evaluate = s.evaluated := by
  have hbuild : s.startEval.buildPlan = s.buildPlan := buildPlan_outside (s := s) s.line s.startEval.planner (s.draws + 1)
  simp only [State.evaluate, State.evaluated, hbuild]
  cases hb : s.buildPlan with
  | nil => rfl
  | cons m rest =>
    rw [if_neg (List.cons_ne_nil m rest)]
    exact announce_active (s := s.startEval) hmode (m :: rest)

theorem canEvaluate_iff :
    s.canEvaluate = true ↔ s.mode = .active ∧ s.planner.st = .idle ∧ s.isHeld = false ∧ s.meas.fresh = true := by
  simp [State.canEvaluate, State.isActive, and_assoc]

/-- A recheck that keeps no move withdraws, and any other cuts the plan (R136). -/
theorem recheck_active {p : Plan} (hmode : s.mode = .active) (hplan : s.planner.plan = some p) :
    s.recheck = if s.recheckCount (p.moves.take p.kept) = 0 then s.withdrawn p else s.cutTo p := by
  simp only [State.recheck, hplan, State.cutTo]
  cases s.recheckCount (p.moves.take p.kept) with
  | zero => exact withdraw_active hmode hplan
  | succ k => rfl

/-- The release of a planner (R138). -/
theorem releasePlanner_active {p : Plan} (hmode : s.mode = .active) (hplan : s.planner.plan = some p) :
    s.releasePlanner = s.released p := by
  have hrecheck := recheck_active (s := s.modPlanner fun p => { p with listenT := none }) hmode hplan
  simp only [State.releasePlanner, State.released]
  rw [hrecheck]
  split
  next h0 => exact (if_neg (by simp [State.withdrawn, State.plannerRests])).trans (if_pos h0).symm
  next h0 => exact (if_pos rfl).trans (if_neg h0).symm

/-! ### Entry to ACTIVE and to BLACKOUT -/

theorem startBudget_eq (s : State) :
    s.startBudget = { s with
      budget := if s.budget.running then s.budget else { s.budget with running := true, sampLeft := s.conf.sampling } } := by
  rw [State.startBudget]
  split <;> rfl

theorem anyPresent_iff : s.anyPresent = true ↔ s.present .A = true ∨ s.present .B = true ∨ s.present .C = true := by
  simp [State.anyPresent, or_assoc]

end Sys2Proof.Machine

namespace Sys2Proof.Proofs
open Sys2Proof.Machine

/-- Settles O43: the expiry is an evaluation where one may be taken, and otherwise the timer's fresh start alone. -/
theorem evaluationExpiryAnnouncesThePlan : Obligations.EvaluationExpiryAnnouncesThePlan := by
  intro s hp hT
  refine next_powered hp (f := State.evaluationExpiry) ?_
  rw [State.evaluationExpiry, if_pos hT]
  by_cases hcan : s.mode = .active ∧ s.planner.st = .idle ∧ s.isHeld = false ∧ s.meas.fresh = true
  · rw [if_pos (canEvaluate_iff.mpr hcan), if_pos hcan, evaluate_active hcan.1]
  · rw [if_neg fun h => hcan (canEvaluate_iff.mp h), if_neg hcan]
    rfl

/-- Settles O44: the two expiries as they act in ACTIVE. -/
theorem reportAndAnnounceExpiries : Obligations.ReportAndAnnounceExpiries := by
  refine ⟨fun s hp hmode hT => ?_, fun s hp hmode hst hT => ⟨fun hq => ?_, fun b hq htx => ?_⟩⟩
  · refine next_powered hp (f := State.reportExpiry) ?_
    rw [State.reportExpiry, if_pos hT, State.offerLoad, offer_active hmode]
    rfl
  · refine next_powered hp (f := State.announceExpiry) ?_
    have hsoon : ¬s.line.removalTooLate = true := by simp [Line.removalTooLate, Option.isSome_iff_ne_none.mpr hq]
    rw [State.announceExpiry, if_pos ⟨hst, hT⟩, if_neg hsoon]
    exact plannerIdle_rests (s := s.removeIntent.setFlag .announceExpired) hmode
  · refine next_powered hp (f := State.announceExpiry) ?_
    have hlate : s.line.removalTooLate = true := by simp [Line.removalTooLate, Line.sendsIntent, hq, htx]
    rw [State.announceExpiry, if_pos ⟨hst, hT⟩, if_pos hlate]
    rfl

/-- Settles O47: both entries with nothing waiting, the arbiter finding nothing to take and no request to abandon. -/
theorem listenOnlyEndsInActiveOrBlackout : Obligations.ListenOnlyEndsInActiveOrBlackout := by
  intro s hp hmode hT hreq hdue hrescue hidle
  refine next_powered hp (f := State.listenOnlyExpiry) ?_
  rw [State.listenOnlyExpiry, if_pos ⟨hmode, hT⟩]
  by_cases hpresent : s.present .A = true ∨ s.present .B = true ∨ s.present .C = true
  · rw [if_pos (anyPresent_iff.mpr hpresent), if_pos hpresent, State.enterActive, startBudget_eq]
    refine (arbitrate_idle ?_ ?_ ?_ ?_).trans rfl
    · exact fun h => nomatch h
    · exact (dueMember_congr fun _ => rfl).trans hdue
    · exact hrescue
    · exact hidle
  · rw [if_neg fun h => hpresent (anyPresent_iff.mp h), if_neg hpresent]
    have hfree : (((((s.enterMode .blackout none).clearLine).modPlanner Planner.leaveActive).modEngine
        fun e => { e with rescue := [], rescueDone := false })).engine.req = none := hreq
    rw [State.enterBlackout, State.abandonRequest, hfree]
    simp only [State.modEngine, State.modPlanner, State.clearLine, State.enterMode, State.modStation, Planner.leaveActive,
      Planner.cleared, hidle]

end Sys2Proof.Proofs


/-! What the planner makes of the events handed to it (sections 8.4 to 8.7): setbacks, a peer's INTENT, the notices of a stored frame, and the
release of a HELD planner. -/

namespace Sys2Proof.Machine

variable {s t : State}

/-! ### Setbacks (R141, R142, R144) -/

/-- A removal asked while the INTENT is queued is in time (R103). -/
theorem removal_in_time (h : s.line.qIntent ≠ none) : ¬s.line.removalTooLate = true := by
  simp [Line.removalTooLate, Option.isSome_iff_ne_none.mpr h]

theorem removal_too_late {b : IntentBody} (hq : s.line.qIntent = none) (htx : s.line.tx = some (.intent b)) :
    s.line.removalTooLate = true := by
  simp [Line.removalTooLate, Line.sendsIntent, hq, htx]

/-- A plan that ceases to be offered with every move kept: each position without a result is SKIPPED, but for the one in flight. -/
theorem Plan.ceased_eq {p : Plan} (flight : Option Nat) (hlen : p.results.length = p.moves.length) (hkept : p.kept = p.moves.length) :
    p.ceased flight =
      { p with results := p.results.mapIdx fun k r => if flight = some k then r else some (r.getD .skipped) } := by
  have hresults : (p.results.mapIdx fun i r => if r.isNone && decide (i < p.kept) && flight != some i then some .skipped else r)
      = p.results.mapIdx fun k r => if flight = some k then r else some (r.getD .skipped) := by
    refine List.ext_getElem (by simp) fun k hk _ => ?_
    have hlt : k < p.kept := by
      rw [List.length_mapIdx] at hk
      omega
    simp only [List.getElem_mapIdx, hlt, decide_true, Bool.and_true]
    by_cases hf : flight = some k
    · simp [hf]
    · cases p.results[k] <;> simp [hf]
  rw [Plan.ceased, hresults]

theorem ceaseOffering_eq {p : Plan} (hplan : s.planner.plan = some p) :
    s.ceaseOffering = (s.modPlanner fun q => { q with plan := some (p.ceased s.planMoveInFlight) }).concludePlan := by
  simp only [State.ceaseOffering, State.modPlanner, hplan, Option.map_some]

/-- The planner ceases to offer with no plan move in flight: the plan concludes (R144, R145). -/
theorem ceaseOffering_free {p : Plan} (hmode : s.mode = .active) (hst : s.planner.st = .executing) (hplan : s.planner.plan = some p)
    (hlen : p.results.length = p.moves.length) (hkept : p.kept = p.moves.length) (hflight : s.planMoveInFlight = none) :
    s.ceaseOffering =
      { s.plannerRests (some s.planner.intentNo) with
        flags := s.flags ||| BitVec.twoPow 19 17
        line := Line.refresh s.pins.lcd
          { s.line with
            qOutcome := some
              ⟨s.planner.intentNo, true, p.results.map (·.getD .skipped), if s.meas.fresh then none else some s.meas.vec⟩ } } := by
  have hceased : p.ceased s.planMoveInFlight = { p with results := p.results.map fun r => some (r.getD .skipped) } := by
    rw [Plan.ceased_eq _ hlen hkept, hflight]
    have hall : (p.results.mapIdx fun k r => if (none : Option Nat) = some k then r else some (r.getD .skipped))
        = p.results.map fun r => some (r.getD .skipped) := List.ext_getElem (by simp) fun k _ _ => by simp
    rw [hall]
  have hreported : (p.results.map fun r => some (r.getD .skipped)).map (·.getD .skipped) = p.results.map (·.getD .skipped) := by simp
  rw [ceaseOffering_eq hplan, hceased]
  refine (concludePlan_settled
    (s := s.modPlanner fun q => { q with plan := some { p with results := p.results.map fun r => some (r.getD .skipped) } })
    hmode hst rfl hflight ?_).trans ?_
  · simp
  · dsimp only
    rw [hreported]
    rfl

/-- With a plan move in flight the plan waits for its result (R144). -/
theorem ceaseOffering_inFlight {p : Plan} {pos : Nat} (hplan : s.planner.plan = some p)
    (hlen : p.results.length = p.moves.length) (hkept : p.kept = p.moves.length) (hflight : s.planMoveInFlight = some pos) :
    s.ceaseOffering =
      { s with
        planner :=
          { s.planner with
            plan := some { p with results := p.results.mapIdx fun k r => if k = pos then r else some (r.getD .skipped) } } } := by
  have hceased : p.ceased s.planMoveInFlight
      = { p with results := p.results.mapIdx fun k r => if k = pos then r else some (r.getD .skipped) } := by
    rw [Plan.ceased_eq _ hlen hkept, hflight]
    simp only [Option.some_inj, eq_comm]
  rw [ceaseOffering_eq hplan, hceased]
  refine if_neg fun h => ?_
  exact Option.some_ne_none pos (hflight.symm.trans h.2.2)

/-- The planner's answer to a setback, by its state (R141, R142). -/
theorem onSetback_idle (n : Noted) (hst : s.planner.st = .idle) : s.onSetback n = s := by
  rw [State.onSetback, hst]

theorem onSetback_queued (n : Noted) (hmode : s.mode = .active) (hst : s.planner.st = .announcing) (hq : s.line.qIntent ≠ none) :
    s.onSetback n = { s.plannerRests s.planner.last with line := Line.refresh s.pins.lcd { s.line with qIntent := none } } := by
  rw [State.onSetback, hst]
  exact (if_neg (removal_in_time hq)).trans (plannerIdle_rests (s := s.removeIntent) hmode)

theorem onSetback_sent (n : Noted) {b : IntentBody} (hst : s.planner.st = .announcing) (hq : s.line.qIntent = none)
    (htx : s.line.tx = some (.intent b)) :
    s.onSetback n = { s with planner := { s.planner with noted := s.planner.noted ++ [n] } } := by
  rw [State.onSetback, hst]
  exact if_pos (removal_too_late hq htx)

theorem onSetback_waiting (n : Noted) {p : Plan} (hmode : s.mode = .active) (hst : s.planner.st = .awaiting ∨ s.planner.st = .held)
    (hplan : s.planner.plan = some p) : s.onSetback n = s.withdrawn p := by
  rw [State.onSetback]
  rcases hst with hst | hst <;> rw [hst] <;> exact withdraw_active hmode hplan

theorem onSetback_executing (n : Noted) (hst : s.planner.st = .executing) : s.onSetback n = s.ceaseOffering := by
  rw [State.onSetback, hst]

theorem planMoveInFlight_none (h : ∀ m : MoveReq, s.engine.req = some (.move m) → m.rescue = true) : s.planMoveInFlight = none := by
  unfold State.planMoveInFlight
  split
  next m hreq => rw [if_pos (h m hreq)]
  all_goals rfl

theorem planMoveInFlight_some {m : MoveReq} (hreq : s.engine.req = some (.move m)) (hm : m.rescue = false) :
    s.planMoveInFlight = some m.pos := by
  simp [State.planMoveInFlight, hreq, hm]

/-! ### A peer's INTENT (R136, R140) -/

theorem onPeerIntent_queued (hmode : s.mode = .active) (hst : s.planner.st = .announcing) (hq : s.line.qIntent ≠ none) :
    s.onPeerIntent =
      if s.meas.fresh = true ∧ s.buildPlan ≠ [] then
        { s with
          planner :=
            { s.planner with
              intentNo := s.planner.intentNo + 1
              plan := some ⟨s.buildPlan, s.buildPlan.length, List.replicate s.buildPlan.length none, 0⟩
              announceT := some s.conf.announce }
          line := Line.refresh s.pins.lcd
            { Line.refresh s.pins.lcd { s.line with qIntent := none } with
              qIntent := some ⟨s.planner.intentNo + 1, s.conf.lifetime, s.buildPlan.map fun m => ⟨m.src, m.dst, m.cur⟩⟩ } }
      else { s.plannerRests s.planner.last with line := Line.refresh s.pins.lcd { s.line with qIntent := none } } := by
  have hrests : s.removeIntent.plannerIdle
      = { s.plannerRests s.planner.last with line := Line.refresh s.pins.lcd { s.line with qIntent := none } } :=
    plannerIdle_rests (s := s.removeIntent) hmode
  have hbuild : s.removeIntent.buildPlan = s.buildPlan := buildPlan_outside (s := s) s.removeIntent.line s.planner s.draws
  have hevent : s.onPeerIntent = s.removeIntent.rebuild := by
    rw [State.onPeerIntent, hst]
    exact if_neg (removal_in_time hq)
  rw [hevent, State.rebuild, hbuild, hrests]
  by_cases hf : s.meas.fresh = true
  · refine (if_pos hf).trans ?_
    cases hb : s.buildPlan with
    | nil => exact (if_neg fun h => h.2 rfl).symm
    | cons m rest =>
      rw [if_pos ⟨hf, List.cons_ne_nil m rest⟩]
      refine (announce_active (s := s.removeIntent) hmode (m :: rest)).trans ?_
      rw [← hst]
      rfl
  · exact (if_neg hf).trans (if_neg fun h => hf h.1).symm

theorem onPeerIntent_waiting {p : Plan} (hmode : s.mode = .active) (hst : s.planner.st = .awaiting ∨ s.planner.st = .held)
    (hplan : s.planner.plan = some p) :
    s.onPeerIntent = if s.recheckCount (p.moves.take p.kept) = 0 then s.withdrawn p else s.cutTo p := by
  rw [State.onPeerIntent, ← recheck_active hmode hplan]
  rcases hst with hst | hst <;> rw [hst]

/-! ### The notices of a stored frame (R117) -/

/-- A frame from a known peer, stored, and its notices handed on. -/
theorem receiveFrame_notices {bytes : List Byte} {addr k : Nat} {e : Entry} {f : Frame} (harriving : s.frameArriving = true)
    (haddr : addr ≠ s.conf.address) (hslotOf : s.slotOf addr = some k) (hslot : s.slot k = some e)
    (hvalid : validateFrame s.conf.feeder bytes = some (addr, f)) :
    s.receiveFrame bytes =
      ((((s.afterFrame.setSlot k (some (e.refresh.store f))).flagHold f).onCleared addr (e.refresh.clears f)).onHeard addr f).onPeerHold
        s.peerHeld := by
  have hplace : s.afterFrame.place addr = some (k, e.refresh, none) := place_known (s := s) hslotOf hslot
  rw [receiveFrame_valid harriving hvalid, State.frameHeard, if_neg (by exact haddr), State.takeFrame, hplace]
  rfl

theorem mem_of_slot {k : Nat} {e : Entry} (h : s.slot k = some e) : some e ∈ s.nbrs := by
  rw [State.slot, List.getD_eq_getElem?_getD] at h
  cases hk : s.nbrs[k]? with
  | none => simp [hk] at h
  | some x =>
    rw [hk, Option.getD_some] at h
    exact h ▸ List.mem_of_getElem? hk

/-- A slot rewritten with its own hold adds no peer's hold. -/
theorem peerHeld_of_set_same {k : Nat} {e e' : Entry} (hslot : s.slot k = some e) (hold : e'.hold = e.hold)
    (h : ((s.nbrs.set k (some e')).any fun x => x.any fun y => y.hold.isSome) = true) : s.peerHeld = true := by
  obtain ⟨y, hy, hheld⟩ := List.any_eq_true.mp h
  rcases List.mem_or_eq_of_mem_set hy with hmem | rfl
  · exact List.any_eq_true.mpr ⟨y, hmem, hheld⟩
  · exact List.any_eq_true.mpr ⟨some e, mem_of_slot hslot, by simpa [hold] using hheld⟩

/-- A frame that leaves its sender's hold as it was makes nobody held. -/
theorem onPeerHold_same {k : Nat} {e e' : Entry} (hslot : s.slot k = some e) (hold : e'.hold = e.hold)
    (hnbrs : t.nbrs = s.nbrs.set k (some e')) : t.onPeerHold s.peerHeld = t :=
  onPeerHold_not_new fun h => peerHeld_of_set_same hslot hold (hnbrs ▸ h)

theorem isHeld_eq_false_iff : s.isHeld = false ↔ s.planner.ownHold = 0 ∧ s.peerHeld = false := by
  simp [State.isHeld]

/-- The first hold stored makes the station held (R121, R130). -/
theorem onPeerHold_first {k : Nat} {e e' : Entry} {h : PHold} (hslot : s.slot k = some e) (hheld : s.isHeld = false) (hhold : e'.hold = some h)
    (hnbrs : t.nbrs = s.nbrs.set k (some e')) (hown : t.planner.ownHold = s.planner.ownHold) :
    t.onPeerHold s.peerHeld = t.becomesHeld := by
  obtain ⟨hnone, hpeer⟩ := isHeld_eq_false_iff.mp hheld
  have hk : k < s.nbrs.length := by
    by_contra hn
    rw [State.slot, List.getD_eq_getElem?_getD, List.getElem?_eq_none (Nat.not_lt.mp hn)] at hslot
    cases hslot
  have hnow : t.peerHeld = true := by
    refine List.any_eq_true.mpr ⟨some e', ?_, by simp [hhold]⟩
    rw [hnbrs]
    exact List.mem_set hk _
  rw [State.onPeerHold, hpeer, hnow, hown, hnone]
  rfl

theorem hold_of_peerHeld {k : Nat} {e : Entry} (hslot : s.slot k = some e) (hpeer : s.peerHeld = false) : e.hold = none := by
  have h := List.any_eq_false.mp hpeer _ (mem_of_slot hslot)
  simpa using h

/-! ### The release of a HELD planner (R135, R138) -/

/-- A property of the planner that its return to IDLE keeps, and that does not look at plan, noted events, own hold, the number last
concluded or the evaluation timer. -/
structure PlannerKept (Q : Planner → Prop) : Prop where
  cleared : ∀ p, Q p → Q p.cleared
  plan : ∀ p x, Q p → Q { p with plan := x }
  noted : ∀ p x, Q p → Q { p with noted := x }
  last : ∀ p x, Q p → Q { p with last := x }
  ownHold : ∀ p x, Q p → Q { p with ownHold := x }
  evalT : ∀ p x, Q p → Q { p with evalT := x }

namespace PlannerKept

variable {Q : Planner → Prop} (hQ : PlannerKept Q)
include hQ

theorem plannerIdle (h : Q s.planner) : Q s.plannerIdle.planner := by
  rw [State.plannerIdle]
  split
  · exact hQ.evalT _ _ (hQ.cleared _ h)
  · exact hQ.cleared _ h

theorem withdraw (h : Q s.planner) : Q s.withdraw.planner := by
  have hoffered : Q (s.offerOutcome s.planner.intentNo false ((s.planner.plan.map Plan.allSkipped).getD [])).planner := by simpa using h
  exact hQ.plannerIdle (hQ.last _ _ hoffered)

theorem concludePlan (h : Q s.planner) : Q s.concludePlan.planner := by
  unfold State.concludePlan
  split
  · exact h
  · split
    · refine hQ.plannerIdle (hQ.last _ _ ?_)
      simpa using h
    · exact h

theorem planResult (h : Q s.planner) (pos : Nat) (r : MoveResult) : Q (s.planResult pos r).planner := by
  unfold State.planResult
  split
  · exact h
  · split
    · exact hQ.concludePlan (hQ.plan _ _ h)
    · exact h

theorem onSetback (h : Q s.planner) (n : Noted) : Q (s.onSetback n).planner := by
  unfold State.onSetback
  split
  · exact h
  · split
    · exact hQ.noted _ _ h
    · exact hQ.plannerIdle h
  · exact hQ.withdraw h
  · exact hQ.withdraw h
  · exact hQ.concludePlan (hQ.plan _ _ h)

theorem issueHold (h : Q s.planner) (d : Nat) (r : Reason) : Q (s.issueHold d r).planner := by
  have hoffered : Q ((s.modPlanner fun p => { p with ownHold := max p.ownHold d }).offerHold d r).planner := by
    simpa using hQ.ownHold _ (max s.planner.ownHold d) h
  unfold State.issueHold
  split
  · exact hoffered
  · split
    · exact hQ.onSetback hoffered _
    · exact hoffered

theorem keptByEngine : KeptByEngine fun s => Q s.planner where
  ignored h _ _ _ _ _ _ _ hpl _ := by rw [hpl]; exact h
  setReq h _ := h
  inventory _ _ h _ := h
  send h _ := h
  modConn _ h _ := h
  modHeld _ h := h
  popRescue h := h
  rescueEmptied h := by simpa using h
  recordConclusion m k h := by simpa using h
  appendStranded i h := by simpa using h
  planResult pos r h := hQ.planResult h pos r
  issueHold r h _ _ := hQ.issueHold h _ r

end PlannerKept

/-- An empty precedence list stays empty. -/
theorem prec_plannerKept : PlannerKept fun p => p.prec = [] where
  cleared _ _ := rfl
  plan _ _ h := h
  noted _ _ h := h
  last _ _ h := h
  ownHold _ _ h := h
  evalT _ _ h := h

theorem released_prec (p : Plan) (h : s.planner.prec = []) : (s.released p).planner.prec = [] := by
  unfold State.released
  dsimp only
  split
  · rfl
  · exact prec_plannerKept.keptByEngine.arbitrate h

theorem released_nbrs {p : Plan} (hmode : s.mode = .active) (hplan : s.planner.plan = some p) : (s.released p).nbrs = s.nbrs := by
  rw [← releasePlanner_active hmode hplan]
  simp

/-- The last pair leaves the precedence list of a HELD planner: it is released (R135). -/
theorem onNumber_releases {p : Plan} {addr : Nat} {num : Byte} (hmode : s.mode = .active) (hst : s.planner.st = .held)
    (hprec : s.planner.prec = [⟨addr, num⟩]) (hplan : s.planner.plan = some p) :
    s.onNumber addr num = State.released { s with planner := { s.planner with prec := [] } } p := by
  have hempty : (s.planner.prec.filter fun k => !(k.addr == addr && k.num == num)) = [] := by simp [hprec]
  rw [State.onNumber, State.removePairs]
  simp only [State.modPlanner, hempty]
  rw [if_pos ⟨hst, by simp [hprec], trivial⟩]
  exact releasePlanner_active (s := { s with planner := { s.planner with prec := [] } }) hmode hplan

/-- The number an OUTCOME names leaves the list once, whether or not its entry's pending intent had it too (R115, R117). -/
theorem onCleared_outcome (t : State) (addr : Nat) (e : Entry) (b : OutcomeBody) :
    t.onCleared addr (e.refresh.clears (.outcome b)) = t
      ∨ t.onCleared addr (e.refresh.clears (.outcome b)) = t.onNumber addr b.num := by
  obtain ⟨a, fresh, age, vec, info, last, concluded, intent, hold⟩ := e
  cases intent with
  | none => exact .inl rfl
  | some i =>
    by_cases hn : i.num = b.num
    · right
      simp [Entry.clears, Entry.store, Entry.storeOutcome, Entry.clearMatching, Entry.refresh, hn, State.onCleared]
    · left
      simp [Entry.clears, Entry.store, Entry.storeOutcome, Entry.clearMatching, Entry.refresh, hn, State.onCleared]

/-- The OUTCOME of the last peer in precedence (R115, R135, R138). -/
theorem outcome_notices {p : Plan} {addr : Nat} {b : OutcomeBody} (e : Entry) (hmode : s.mode = .active) (hst : s.planner.st = .held)
    (hprec : s.planner.prec = [⟨addr, b.num⟩]) (hplan : s.planner.plan = some p) :
    (s.onCleared addr (e.refresh.clears (.outcome b))).onHeard addr (.outcome b)
      = State.released { s with planner := { s.planner with prec := [] } } p := by
  rcases onCleared_outcome s addr e b with h | h
  · rw [h]
    exact onNumber_releases hmode hst hprec hplan
  · rw [h, onNumber_releases hmode hst hprec hplan]
    exact removePairs_empty _ (released_prec p rfl)

end Sys2Proof.Machine

namespace Sys2Proof.Proofs
open Sys2Proof.Machine

/-- The answers to becoming held and to a phase loss are one, by the planner's state (R141, R142). -/
theorem setback_by_state (s : State) (n : Noted) (hmode : s.mode = .active) :
    (s.planner.st = .idle → s.onSetback n = s)
    ∧ (s.planner.st = .announcing → s.line.qIntent ≠ none →
        s.onSetback n = { s.plannerRests s.planner.last with line := Line.refresh s.pins.lcd { s.line with qIntent := none } })
    ∧ (∀ b, s.planner.st = .announcing → s.line.qIntent = none → s.line.tx = some (.intent b) →
        s.onSetback n = { s with planner := { s.planner with noted := s.planner.noted ++ [n] } })
    ∧ ∀ p : Plan, s.planner.plan = some p → s.planner.st = .awaiting ∨ s.planner.st = .held → s.onSetback n = s.withdrawn p :=
  ⟨onSetback_idle n, onSetback_queued n hmode, fun _ => onSetback_sent n, fun _ hplan hst => onSetback_waiting n hmode hst hplan⟩

/-- Settles O46: the setbacks and a peer's INTENT by the planner's state, and the frames whose notices hand them on. -/
theorem plannerTakesEventsByItsState : Obligations.PlannerTakesEventsByItsState := by
  refine ⟨fun s n f hmode hf => ?_, fun s hmode => ⟨fun hst => ?_, onPeerIntent_queued hmode, fun b hst hq htx => ?_,
    fun p hplan hst => onPeerIntent_waiting hmode hst hplan⟩,
    fun bytes addr k e s hp hmode harriving haddr hslotOf hslot => ⟨fun b hvalid hnone => ?_, fun b hvalid hheld => ?_,
      fun b p hvalid hst hprec hplan => ?_⟩⟩
  · obtain rfl : f = State.onSetback n := by
      rcases hf with ⟨rfl, rfl⟩ | ⟨rfl, rfl⟩ <;> rfl
    obtain ⟨hidle, hqueued, hsent, hwaiting⟩ := setback_by_state s n hmode
    refine ⟨hidle, hqueued, hsent, fun p hplan => ⟨hwaiting p hplan, fun hst hlen hkept => ⟨fun hfree => ?_, fun m hreq hm => ?_⟩⟩⟩
    · rw [onSetback_executing n hst]
      exact ceaseOffering_free hmode hst hplan hlen hkept (planMoveInFlight_none hfree)
    · rw [onSetback_executing n hst]
      exact ceaseOffering_inFlight hplan hlen hkept (planMoveInFlight_some hreq hm)
  · rw [State.onPeerIntent]
    rcases hst with hst | hst <;> rw [hst]
  · rw [State.onPeerIntent, hst]
    exact if_pos (removal_too_late hq htx)
  · refine next_powered hp ((receiveFrame_notices harriving haddr hslotOf hslot hvalid).trans ?_)
    have hclears : e.refresh.clears (.intent b) = none := hnone
    rw [hclears]
    exact onPeerHold_same (e' := e.refresh.store (.intent b)) hslot rfl (by simp [State.onHeard, State.onCleared, State.flagHold, State.afterFrame])
  · refine next_powered hp ((receiveFrame_notices harriving haddr hslotOf hslot hvalid).trans ?_)
    have hstored : e.refresh.store (.hold b) = { e with age := 0, fresh := true, hold := some ⟨b.dur, b.reason⟩ } := by
      rw [store_refresh_hold, hold_of_peerHeld hslot (isHeld_eq_false_iff.mp hheld).2]
    rw [hstored]
    exact onPeerHold_first (e' := { e with age := 0, fresh := true, hold := some ⟨b.dur, b.reason⟩ }) hslot hheld rfl rfl rfl
  · refine next_powered hp ((receiveFrame_notices harriving haddr hslotOf hslot hvalid).trans ?_)
    rw [store_refresh_outcome]
    have houtcome := outcome_notices (s := s.afterFrame.setSlot k (some
      { e with age := 0, fresh := true, vec := some b.vec, last := some b.num,
               intent := if e.intent.map (·.num) = some b.num then none else e.intent })) e hmode hst hprec hplan
    refine (congrArg (State.onPeerHold s.peerHeld) houtcome).trans ?_
    exact onPeerHold_same
      (e' := { e with age := 0, fresh := true, vec := some b.vec, last := some b.num,
                      intent := if e.intent.map (·.num) = some b.num then none else e.intent })
      hslot rfl (released_nbrs (by exact hmode) (by exact hplan))

end Sys2Proof.Proofs


/-! Plans and rechecks move by move: the way currents adjusted by the moves before one, what a plan holds, and what a recheck keeps
(R44 to R51), with the ends of the listen window and of the lifetime. -/

namespace Sys2Proof.Machine

variable {s : State}

/-! ### Way currents adjusted by moves (R45) -/

theorem shift_get (v : Vec) (p q r : Phase) (c : Int) :
    (shift v p q c).get r = v.get r + ((if q = r then c else 0) - if p = r then c else 0) := by
  rw [shift, Ph3.get_set]
  by_cases hq : q = r
  · subst hq
    rw [if_pos rfl, if_pos rfl, Ph3.get_set]
    split
    next h => subst h; omega
    next => omega
  · rw [if_neg hq, if_neg hq, Ph3.get_set]
    split
    next h => subst h; omega
    next => omega

/-- The way currents after some moves, each with the current `cur` gives it. -/
def State.waysAfter (s : State) (cur : Move → Int) (ways : List Vec) (moves : List Move) : List Vec :=
  moves.foldl (fun w m => s.adjustWays w m.conn m.src m.dst (cur m)) ways

/-- What a move adds to the current of a phase on its way. -/
def Move.adds (c : Int) (q : Phase) (m : Move) : Int := (if m.dst = q then c else 0) - (if m.src = q then c else 0)

theorem wayVec_modify {ways : List Vec} {j k : Nat} (f : Vec → Vec) (hk : k < ways.length) :
    wayVec (ways.modify j f) k = if j = k then f (wayVec ways k) else wayVec ways k := by
  simp only [wayVec, List.getD_eq_getElem?_getD, List.getElem?_modify, List.getElem?_eq_getElem hk]
  split <;> rfl

/-- Each phase's current on a way is adjusted by the moves on that way alone. -/
theorem waysAfter_get (cur : Move → Int) (q : Phase) {k : Nat} (ways : List Vec) (moves : List Move) (hk : k < ways.length) :
    (wayVec (s.waysAfter cur ways moves) k).get q
      = (wayVec ways k).get q + ((moves.filter fun x => s.wayOf x.conn == k).map fun x => x.adds (cur x) q).sum := by
  induction moves generalizing ways with
  | nil => simp [State.waysAfter]
  | cons m rest ih =>
    have hstep := ih (s.adjustWays ways m.conn m.src m.dst (cur m)) (by simpa [State.adjustWays] using hk)
    change (wayVec (s.waysAfter cur (s.adjustWays ways m.conn m.src m.dst (cur m)) rest) k).get q = _
    rw [hstep, State.adjustWays, wayVec_modify _ hk]
    by_cases hway : s.wayOf m.conn = k
    · rw [if_pos hway, shift_get, List.filter_cons_of_pos (by simpa using hway), List.map_cons, List.sum_cons, Move.adds]
      omega
    · rw [if_neg hway, List.filter_cons_of_neg (by simpa using hway)]

/-! ### What a plan holds (R44, R45, R47) -/

/-- The moves of a plan name no connection twice, and each was a candidate against the way currents that the moves before it leave. -/
def State.Planned (s : State) (plan : List Move) : Prop :=
  (plan.map (·.conn)).Nodup
    ∧ ∀ (k : Nat) (m : Move), plan[k]? = some m →
        s.candidate (s.waysAfter (·.cur) s.meas.ways (plan.take k)) m.conn m.src m.dst = true ∧ m.cur = (s.held m.conn).value

theorem State.Planned.append {plan : List Move} {m : Move} (h : s.Planned plan) (hnew : (plan.all fun x => x.conn != m.conn) = true)
    (hcand : s.candidate (s.waysAfter (·.cur) s.meas.ways plan) m.conn m.src m.dst = true) (hcur : m.cur = (s.held m.conn).value) :
    s.Planned (plan ++ [m]) := by
  obtain ⟨hnodup, hmoves⟩ := h
  refine ⟨?_, fun k x hx => ?_⟩
  · rw [List.map_append, List.map_singleton, List.nodup_append]
    refine ⟨hnodup, List.nodup_singleton _, fun a ha b hb => ?_⟩
    obtain ⟨y, hy, rfl⟩ := List.mem_map.mp ha
    rw [List.mem_singleton.mp hb]
    simpa using List.all_eq_true.mp hnew y hy
  · rcases Nat.lt_or_ge k plan.length with hk | hk
    · rw [List.getElem?_append_left hk] at hx
      rw [List.take_append_of_le_length hk.le]
      exact hmoves k x hx
    · rw [List.getElem?_append_right hk, List.getElem?_singleton] at hx
      split at hx
      next h0 =>
        cases hx
        have hlen : k = plan.length := by omega
        rw [hlen, List.take_left]
        exact ⟨hcand, hcur⟩
      next => cases hx

theorem waysAfter_append (cur : Move → Int) (ways : List Vec) (plan : List Move) (m : Move) :
    s.waysAfter cur ways (plan ++ [m]) = s.adjustWays (s.waysAfter cur ways plan) m.conn m.src m.dst (cur m) := by
  simp [State.waysAfter]

/-- Each step of plan building adds a candidate that the plan has not named. -/
theorem State.Planned.extend {plan : List Move} (h : s.Planned plan) (n : Nat) (w : Vec) :
    s.Planned (s.extendPlan n w (s.waysAfter (·.cur) s.meas.ways plan) plan) := by
  induction n generalizing w plan with
  | zero => exact h
  | succ n ih =>
    rw [State.extendPlan]
    split
    next => exact h
    next x hbest =>
      split
      next =>
        obtain ⟨i, p, q, rfl, -, hnew, hcand⟩ := mem_candidates_iff.mp (selectedIn_of_bestCandidate hbest).mem
        have hplanned : s.Planned (plan ++ [(s.found w i p q).move]) := h.append hnew hcand rfl
        have hways := waysAfter_append (s := s) (·.cur) s.meas.ways plan (s.found w i p q).move
        dsimp only
        rw [← hways]
        exact ih hplanned _
      next => exact h

theorem buildPlan_planned (s : State) : s.Planned s.buildPlan :=
  State.Planned.extend (plan := []) ⟨List.nodup_nil, fun k m h => by simp at h⟩ _ _

/-! ### What a recheck keeps (R50) -/

/-- A move passes a recheck against a view and way currents: a candidate with its held reading, its gain at or above the floor. -/
def State.Passes (s : State) (w : Vec) (ways : List Vec) (m : Move) : Prop :=
  s.candidate ways m.conn m.src m.dst = true ∧ (s.conf.gainFloor : Int) ≤ gain w m.src m.dst (s.held m.conn).value

/-- The held reading a recheck takes a move with. -/
def State.heldCur (s : State) (m : Move) : Int := (s.held m.conn).value

/-- The view with moves applied, each with its held reading. -/
def State.viewAfter (s : State) (w : Vec) (moves : List Move) : Vec :=
  moves.foldl (fun v x => applyMove v x.src x.dst (s.heldCur x)) w

theorem recheckFrom_cons (w : Vec) (ways : List Vec) (m : Move) (rest : List Move) :
    (s.Passes w ways m → s.recheckFrom w ways (m :: rest)
        = s.recheckFrom (applyMove w m.src m.dst (s.heldCur m)) (s.adjustWays ways m.conn m.src m.dst (s.heldCur m)) rest + 1)
    ∧ (¬s.Passes w ways m → s.recheckFrom w ways (m :: rest) = 0) := by
  have hiff : (s.candidate ways m.conn m.src m.dst
      && decide ((s.conf.gainFloor : Int) ≤ gain w m.src m.dst (s.held m.conn).value)) = true ↔ s.Passes w ways m := by
    simp [State.Passes]
  exact ⟨fun h => if_pos (hiff.mpr h), fun h => if_neg fun hn => h (hiff.mp hn)⟩

/-- The leading moves that pass, each with those before it applied, and the first that does not. -/
theorem recheckFrom_spec (w : Vec) (ways : List Vec) (moves : List Move) :
    s.recheckFrom w ways moves ≤ moves.length
    ∧ (∀ (j : Nat) (m : Move), j < s.recheckFrom w ways moves → moves[j]? = some m →
        s.Passes (s.viewAfter w (moves.take j)) (s.waysAfter s.heldCur ways (moves.take j)) m)
    ∧ ∀ m : Move, moves[s.recheckFrom w ways moves]? = some m →
        ¬s.Passes (s.viewAfter w (moves.take (s.recheckFrom w ways moves)))
          (s.waysAfter s.heldCur ways (moves.take (s.recheckFrom w ways moves))) m := by
  induction moves generalizing w ways with
  | nil => simp [State.recheckFrom]
  | cons m rest ih =>
    obtain ⟨hkeep, hstop⟩ := recheckFrom_cons (s := s) w ways m rest
    by_cases hpass : s.Passes w ways m
    · obtain ⟨hlen, hkept, hnext⟩ := ih (applyMove w m.src m.dst (s.heldCur m)) (s.adjustWays ways m.conn m.src m.dst (s.heldCur m))
      rw [hkeep hpass]
      refine ⟨by rw [List.length_cons]; omega, fun j x hj hx => ?_, fun x hx => ?_⟩
      · cases j with
        | zero =>
          obtain rfl : m = x := by simpa using hx
          exact hpass
        | succ j => exact hkept j x (by omega) (by simpa using hx)
      · exact hnext x (by simpa using hx)
    · rw [hstop hpass]
      refine ⟨Nat.zero_le _, fun j _ hj => by omega, fun x hx => ?_⟩
      obtain rfl : m = x := by simpa using hx
      exact hpass

end Sys2Proof.Machine

namespace Sys2Proof.Proofs
open Sys2Proof.Machine

/-- Settles O41: the plan is built of candidates one by one, none named twice, the ways adjusted by those before. -/
theorem planMovesAreDistinctCandidates : Obligations.PlanMovesAreDistinctCandidates := by
  intro s
  obtain ⟨hpMax, hallow⟩ := Nat.le_min.mp (length_buildPlan_le s)
  obtain ⟨hnodup, hmoves⟩ := buildPlan_planned s
  refine ⟨hpMax, hallow, hnodup, fun k m hm hway => ?_, fun m hm => ?_⟩
  · obtain ⟨hcand, hcur⟩ := hmoves k m hm
    obtain ⟨-, -, -, -, -, -, -, -, -, -, -, hlimit⟩ := candidate_iff.mp hcand
    rw [waysAfter_get _ _ _ _ hway, ← hcur] at hlimit
    exact hlimit
  · obtain ⟨k, hk⟩ := List.mem_iff_getElem?.mp hm
    obtain ⟨hcand, hcur⟩ := hmoves k m hk
    obtain ⟨hconf, hattr, hst, hsat, hmeas, hmin, hon, hsrc, hne, hallows, hdst, -⟩ := candidate_iff.mp hcand
    exact ⟨hconf, hattr, hst, hon, hsrc, hne, hallows, hdst, hcur, hsat, hmeas, hcur ▸ hmin⟩

/-- Settles O45: the listen window and the lifetime by their rows, and a recheck's kept moves one by one. -/
theorem listenAndLifetimeEnds : Obligations.ListenAndLifetimeEnds := by
  refine ⟨fun pl s hp hmode hst hT hplan => ?_, fun moves s hways => ?_, fun pl s hp => ⟨fun hmode hst hT hplan => ?_, ?_⟩⟩
  · refine next_powered hp (f := State.listenExpiry) ?_
    rw [State.listenExpiry, if_pos ⟨hst, hT⟩]
    by_cases hprec : s.planner.prec = []
    · rw [if_pos hprec, if_neg (by simpa using hprec), releasePlanner_active hmode hplan]
    · rw [if_neg hprec, if_pos hprec]
      rfl
  · dsimp only
    obtain ⟨hlen, hkept, hnext⟩ := recheckFrom_spec (s := s) s.projectedView s.meas.ways moves
    have hlimit (j : Nat) {m : Move} (hm : moves[j]? = some m) :=
      waysAfter_get (s := s) s.heldCur m.dst s.meas.ways (moves.take j) (hways m (List.mem_of_getElem? hm))
    refine ⟨hlen, fun j m hj hm => ?_, fun m hm hn => hnext m hm ?_⟩
    · obtain ⟨hcand, hgain⟩ := hkept j m hj hm
      obtain ⟨hconf, hattr, hst, hsat, hmeas, hmin, hon, hsrc, hne, hallows, hdst, hway⟩ := candidate_iff.mp hcand
      rw [hlimit j hm] at hway
      exact ⟨hconf, hattr, hst, hon, hsrc, hne, hallows, hdst, hsat, hmeas, hmin, hway, hgain⟩
    · obtain ⟨hconf, hattr, hst, hon, hsrc, hne, hallows, hdst, hsat, hmeas, hmin, hway, hgain⟩ := hn
      refine ⟨candidate_iff.mpr ⟨hconf, hattr, hst, hsat, hmeas, hmin, hon, hsrc, hne, hallows, hdst, ?_⟩, hgain⟩
      rw [hlimit (s.recheckFrom s.projectedView s.meas.ways moves) hm]
      exact hway
  · refine next_powered hp (f := State.lifetimeExpiry) ?_
    rw [State.lifetimeExpiry, if_pos ⟨hst, hT⟩, withdraw_active hmode hplan]
  · exact next_powered hp (f := fun t => t) rfl

end Sys2Proof.Proofs


/-! Measurement: where connections count and what the sums are, an accepted record's values, supervision by record, phase returns, and the
comparators and ALERT (R7 to R16, R150 to R160). -/

namespace Sys2Proof.Machine

variable {s t : State}

/-! ### Sums of placed currents (R13, R14) -/

/-- What connection `i` adds to phase `p` in a sum over the connections that satisfy `f`. -/
def State.placedOn (s : State) (f : Nat → Bool) (p : Phase) (i : Nat) : Int :=
  match s.placement i with
  | some (q, c) => if f i = true ∧ q = p then c else 0
  | none => 0

theorem placedOn_none {i : Nat} (f : Nat → Bool) (p : Phase) (h : s.placement i = none) : s.placedOn f p i = 0 := by
  rw [State.placedOn, h]

theorem placedOn_some {i : Nat} {q : Phase} {c : Int} (f : Nat → Bool) (p : Phase) (h : s.placement i = some (q, c)) :
    s.placedOn f p i = if f i = true ∧ q = p then c else 0 := by
  rw [State.placedOn, h]

/-- The step of the sum over placed currents. -/
def State.placeInto (s : State) (f : Nat → Bool) (v : Vec) (i : Nat) : Vec :=
  match s.placement i with
  | some (p, c) => if f i then v.set p (v.get p + c) else v
  | none => v

theorem placeInto_get (f : Nat → Bool) (v : Vec) (i : Nat) (p : Phase) :
    (s.placeInto f v i).get p = v.get p + s.placedOn f p i := by
  cases h : s.placement i with
  | none => simp [State.placeInto, placedOn_none f p h, h]
  | some x =>
    obtain ⟨q, c⟩ := x
    rw [placedOn_some f p h]
    simp only [State.placeInto, h]
    cases f i with
    | false => simp
    | true =>
      rw [if_pos rfl, Ph3.get_set]
      by_cases hq : q = p
      · subst hq
        simp
      · simp [hq]

theorem foldl_placeInto_get (f : Nat → Bool) (l : List Nat) (v : Vec) (p : Phase) :
    (l.foldl (s.placeInto f) v).get p = v.get p + (l.map (s.placedOn f p)).sum := by
  induction l generalizing v with
  | nil => simp
  | cons i l ih => rw [List.foldl_cons, ih, placeInto_get, List.map_cons, List.sum_cons, Int.add_assoc]

theorem placedSum_get (s : State) (f : Nat → Bool) (p : Phase) :
    (s.placedSum f).get p = ((List.range 32).map (s.placedOn f p)).sum := by
  have h := foldl_placeInto_get (s := s) f (List.range 32) ⟨0, 0, 0⟩ p
  have hzero : (⟨0, 0, 0⟩ : Vec).get p = 0 := by cases p <;> rfl
  rw [hzero, Int.zero_add] at h
  exact h

/-- A sum of numbers within a bound lies within the bound times their count. -/
theorem sum_bounds {b : Int} (l : List Int) (h : ∀ x ∈ l, -b ≤ x ∧ x ≤ b) : -(b * l.length) ≤ l.sum ∧ l.sum ≤ b * l.length := by
  induction l with
  | nil => simp
  | cons x l ih =>
    have hx := h x (by simp)
    have hl := ih fun y hy => h y (by simp [hy])
    rw [List.sum_cons, List.length_cons, Nat.cast_succ, Int.mul_add, Int.mul_one]
    omega

/-- A connection counts on one of the four ways. -/
theorem placedOn_ways {i : Nat} (p : Phase) (hway : s.configured i = true → s.wayOf i < 4) :
    s.placedOn (fun _ => true) p i
      = s.placedOn (fun i => s.wayOf i == 0) p i + s.placedOn (fun i => s.wayOf i == 1) p i
        + s.placedOn (fun i => s.wayOf i == 2) p i + s.placedOn (fun i => s.wayOf i == 3) p i := by
  cases h : s.placement i with
  | none => simp [placedOn_none _ p h]
  | some x =>
    obtain ⟨q, c⟩ := x
    have hconf : s.configured i = true := by
      by_contra hn
      simp [State.placement, hn] at h
    have hlt := hway hconf
    simp only [placedOn_some _ p h, beq_iff_eq, true_and]
    by_cases hq : q = p
    · have hcases : s.wayOf i = 0 ∨ s.wayOf i = 1 ∨ s.wayOf i = 2 ∨ s.wayOf i = 3 := by omega
      rcases hcases with hk | hk | hk | hk <;> simp [hk, hq]
    · simp [hq]

theorem placement_of_counts {i : Nat} (hc : s.configured i = true ∧ s.attrOf i ≠ .excluded) :
    s.placement i = match (s.conn i).st with
      | .steady | .resting | .faulted => (s.conn i).cur.map fun p => (p, (s.held i).value)
      | .moving => (s.conn i).note.map fun n => (n.src, (s.held i).preMove.getD (s.held i).value)
      | .dark | .darkLocked | .unconfigured => none := by
  have hcond : (s.configured i && (s.attrOf i == .movable || s.attrOf i == .fixed)) = true := by
    obtain ⟨hconf, hattr⟩ := hc
    cases ha : s.attrOf i with
    | movable | fixed => simp [hconf]
    | excluded => exact absurd ha hattr
  exact if_pos hcond

theorem placement_not_counting {i : Nat} (hc : ¬(s.configured i = true ∧ s.attrOf i ≠ .excluded)) : s.placement i = none := by
  refine if_neg fun h => hc ?_
  simp only [Bool.and_eq_true, Bool.or_eq_true, beq_iff_eq] at h
  obtain ⟨hconf, hattr⟩ := h
  refine ⟨hconf, fun he => ?_⟩
  rw [he] at hattr
  simp at hattr

/-! ### The values of an accepted record (R11 to R16) -/

theorem heldAfter_eq (s : State) (rs : List Reading) :
    (s.meas.held.mapIdx fun i h => if s.configured i then h.read (rs.getD i ⟨0, false⟩) else h) = s.heldAfter rs := by
  refine List.ext_getElem (by simp [State.heldAfter]) fun i hi _ => ?_
  simp only [State.heldAfter, List.getElem_mapIdx, State.configured, decide_eq_true_eq]
  generalize s.meas.held[i]'(by simpa using hi) = h
  generalize rs.getD i ⟨0, false⟩ = r
  by_cases hc : i < s.conf.count
  · rw [if_pos hc, if_neg (by omega), Held.read]
    cases r.valid with
    | true =>
      have hsat : (decide (maxReading < r.value) || decide (r.value < -maxReading)) = decide (1000 < r.value ∨ r.value < -1000) :=
        (Bool.decide_or _ _).symm
      rw [hsat]
      rfl
    | false =>
      have hmeas : (if 3 ≤ h.invalid + 1 then true else h.unmeasured) = (h.unmeasured || decide (2 ≤ h.invalid)) := by
        by_cases h2 : 2 ≤ h.invalid
        · rw [if_pos (by omega)]
          simp [h2]
        · rw [if_neg (by omega)]
          simp [h2]
      rw [hmeas]
      rfl
  · rw [if_neg hc, if_pos (by omega)]

/-- Where connections count depends on the configuration, the overrides, the records and the held readings alone. -/
theorem placement_congr (hcfg : t.cfg = s.cfg) (hst : t.station = s.station) (hconns : t.conns = s.conns)
    (hheld : t.meas.held = s.meas.held) : t.placement = s.placement := by
  funext i
  have hconf : t.configured i = s.configured i := by rw [State.configured, State.configured, State.conf, State.conf, hcfg]
  have hattr : t.attrOf i = s.attrOf i := by
    rw [State.attrOf, State.attrOf, State.overrideOf, State.overrideOf, State.connCfg, State.connCfg, State.conf, State.conf, hst, hcfg]
  have hconn : t.conn i = s.conn i := by rw [State.conn, State.conn, hconns]
  have hread : t.held i = s.held i := by rw [State.held, State.held, hheld]
  simp only [State.placement, hconf, hattr, hconn, hread]

theorem placedSum_congr (h : t.placement = s.placement) (f : Nat → Bool) : t.placedSum f = s.placedSum f := by
  simp only [State.placedSum, h]

theorem placedCounts_congr (h : t.placement = s.placement) : t.placedCounts = s.placedCounts := by
  simp only [State.placedCounts, h]

/-- A record's window number and held readings stored, before the sums are derived. -/
def State.readInto (s : State) (w : Byte) (rs : List Reading) : State :=
  { s with meas := { s.meas with reading := none, lastWindow := some w, held := s.heldAfter rs } }

theorem takeReadings_eq (s : State) (w : Byte) (rs : List Reading) :
    State.takeReadings rs { s with meas := { s.meas with reading := none, lastWindow := some w } } = s.readInto w rs := by
  rw [State.readInto, ← heldAfter_eq]
  rfl

/-- Steps 1 to 3 of an accepted record. -/
theorem recordTaken_freshen (s : State) (w : Byte) (rs : List Reading) : (s.recordTaken w rs).freshen = s.afterRecord w rs := by
  have hsum (f : Nat → Bool) :
      (s.readInto w rs).placedSum f = State.placedSum { s with meas := { s.meas with held := s.heldAfter rs } } f :=
    placedSum_congr (placement_congr rfl rfl rfl rfl) f
  have hcounts : (s.readInto w rs).deriveSums.placedCounts
      = State.placedCounts { s with meas := { s.meas with held := s.heldAfter rs } } :=
    placedCounts_congr (placement_congr rfl rfl rfl rfl)
  rw [State.recordTaken, takeReadings_eq]
  simp only [State.takeSnapshot, hcounts]
  simp only [State.deriveSums, hsum, State.afterRecord]
  generalize State.placedSum { s with meas := { s.meas with held := s.heldAfter rs } } = sums
  generalize State.placedCounts { s with meas := { s.meas with held := s.heldAfter rs } } = counts
  rfl

/-- With every phase PRESENT at or above the loss threshold, supervision clears the marks alone (R7, R8). -/
theorem supervise_well {volts : Ph3 Nat} (h : ∀ p, s.present p = true ∧ s.conf.lossThr ≤ volts.get p) :
    s.supervise volts = { s with phases := s.phases.map fun x => { x with mark := false } } := by
  have hstay (p : Phase) : s.examine volts p = s := by
    obtain ⟨hpresent, hvolts⟩ := h p
    rw [State.examine]
    exact (if_pos hpresent).trans (if_neg (by omega))
  simp only [State.supervise, Phase.all, List.foldl_cons, List.foldl_nil, hstay]

theorem compare_disabled (taken : Bool) (k : Nat) (h : ∀ d ∈ s.conf.comps, d.enable = false) : s.compare taken k = s := by
  rw [State.compare]
  cases hd : s.conf.comps[k]? with
  | none => rfl
  | some d => exact if_neg (by simp [h d (List.mem_of_getElem? hd)])

theorem compareFrom_disabled (l : List Nat) (taken : Bool) (h : ∀ d ∈ s.conf.comps, d.enable = false) : s.compareFrom taken l = s := by
  induction l generalizing taken with
  | nil => rfl
  | cons k rest ih => rw [State.compareFrom, compare_disabled taken k h, ih]

/-! ### Phase supervision and returns (R4, R8, R9) -/

theorem chosenRef_eq_find? (s : State) : s.chosenRef = Phase.all.find? fun p => s.present p := by
  simp only [State.chosenRef, Phase.all, List.find?_cons, List.find?_nil]
  cases s.present .A <;> cases s.present .B <;> cases s.present .C <;> rfl

theorem present_modPhase (p q : Phase) (f : PhaseSup → PhaseSup) (s : State) :
    (s.modPhase p f).present q = if p = q then (f (s.phases.get p)).present else s.present q := by
  simp only [State.present, State.modPhase, Ph3.get_set]
  split <;> rfl

/-- A phase's look at its voltage (R7, R8). -/
theorem examine_eq (volts : Ph3 Nat) (s : State) (p : Phase) :
    s.examine volts p =
      (let x := s.phases.get p
       let n := if s.conf.lossThr + 50 ≤ volts.get p then if x.mark then x.returns + 1 else 1 else 0
       if x.present then if volts.get p < s.conf.lossThr then s.phaseLoss p else s
       else if 2 ≤ n then s.phaseReturn p
       else { s with phases := s.phases.set p { x with returns := n } }) := by
  simp only [State.examine, nextReturns, decide_eq_true_eq]
  rfl

/-- The reference chosen at a return: some phase is PRESENT then (R4). -/
theorem chooseRef_of_return (p : Phase) (hp : s.present p = true) :
    s.chooseRef =
      { s with time := if s.chosenRef = s.time.ref then s.time
                       else { s.time with ref := s.chosenRef, changing := s.time.ref.isSome } } := by
  rw [State.chooseRef]
  by_cases hsame : s.chosenRef = s.time.ref
  · rw [if_pos hsame, if_pos hsame]
  · rw [if_neg hsame, if_neg hsame]
    cases hr : s.chosenRef with
    | none =>
      rw [chosenRef_eq_find?, List.find?_eq_none] at hr
      exact absurd hp (hr p (by cases p <;> simp [Phase.all]))
    | some r => rfl

/-- The state a return leaves before the rescue list and the mode machine take it: the phase PRESENT, the reference chosen again (R4, R8). -/
def State.returned (s : State) (p : Phase) : State :=
  let ref := Phase.all.find? fun x => x == p || s.present x
  { s with
    phases := s.phases.set p { s.phases.get p with present := true, watch := true, returns := 0 }
    flags := s.flags ||| BitVec.twoPow 19 6
    time := if ref = s.time.ref then s.time else { s.time with ref := ref, changing := s.time.ref.isSome } }

theorem chooseRef_returned (s : State) (p : Phase) :
    ((s.modPhase p fun x => { x with present := true, watch := true, returns := 0 }).setFlag .phaseReturned).chooseRef = s.returned p := by
  have hpresent (q : Phase) :
      ((s.modPhase p fun x => { x with present := true, watch := true, returns := 0 }).setFlag .phaseReturned).present q
        = (q == p || s.present q) := by
    refine (present_modPhase p q (fun x => { x with present := true, watch := true, returns := 0 }) s).trans ?_
    by_cases hq : p = q
    · simp [hq]
    · have hq' : (q == p) = false := by simpa using Ne.symm hq
      rw [if_neg hq, hq', Bool.false_or]
  rw [chooseRef_of_return p (by rw [hpresent]; simp), chosenRef_eq_find?]
  simp only [hpresent]
  rfl

theorem rescueOver_kept (s : State) : s.rescueOver.station = s.station ∧ s.rescueOver.cfg = s.cfg := by
  unfold State.rescueOver
  split <;> exact ⟨rfl, rfl⟩

/-- The mode machine takes a return: the first phase back ends BLACKOUT, or starts the timer of LISTEN_ONLY afresh (R171, R173). -/
def State.returnTaken (first : Bool) (s : State) : State :=
  match s.mode with
  | .blackout => s.enterListenOnly
  | .listenOnly => if first then s.enterMode .listenOnly (some (3 * s.conf.report)) else s
  | .loading | .configFault | .inventory | .active => s

theorem returnTaken_eq (first : Bool) (s : State) :
    s.returnTaken first =
      if s.mode = .blackout then
        State.arbitrate { s with station := { s.station with mode := .listenOnly, listenOnly := some (3 * s.conf.report) } }
      else if s.mode = .listenOnly ∧ first = true then
        { s with station := { s.station with listenOnly := some (3 * s.conf.report) } }
      else s := by
  unfold State.returnTaken
  cases hm : s.mode with
  | blackout => rfl
  | listenOnly =>
    have hst : s.station.mode = .listenOnly := hm
    cases first with
    | true =>
      have hsame : ({ s.station with mode := .listenOnly, listenOnly := some (3 * s.conf.report) } : Station)
          = { s.station with listenOnly := some (3 * s.conf.report) } := by rw [← hst]
      exact congrArg (fun x => { s with station := x }) hsame
    | false => rfl
  | loading | configFault | inventory | active => rfl

/-- A phase's return (R8, R9, R77, R171, R173). -/
theorem phaseReturn_eq (s : State) (p : Phase) :
    s.phaseReturn p =
      State.returnTaken (!s.anyPresent) (State.rescueOver
        { s.returned p with engine := { s.engine with rescue := s.engine.rescue.filter fun x => x.lost != p } }) := by
  rw [State.phaseReturn, chooseRef_returned, ← rescueEmptied_eq]
  rfl

/-! ### Comparators and ALERT (R128, R131, R150 to R160) -/

theorem Flag.comparator_code {k : Nat} (hk : k < 4) : (Flag.comparator k).code = 13 + k := by
  have hcases : k = 0 ∨ k = 1 ∨ k = 2 ∨ k = 3 := by omega
  rcases hcases with rfl | rfl | rfl | rfl <;> rfl

/-- Every code below 19 is a flag's. -/
theorem Flag.exists_code {n : Nat} (h : n < 19) : ∃ f : Flag, f.code = n := by
  have hall : ∀ n : Fin 19, ∃ f : Flag, f.code = n.val := by
    intro n
    fin_cases n
    exacts [⟨.connectionDark, rfl⟩, ⟨.transferFailed, rfl⟩, ⟨.moduleSilent, rfl⟩, ⟨.addressClash, rfl⟩, ⟨.measurementLost, rfl⟩,
      ⟨.phaseLost, rfl⟩, ⟨.phaseReturned, rfl⟩, ⟨.throttled, rfl⟩, ⟨.tableFull, rfl⟩, ⟨.announceExpired, rfl⟩, ⟨.holdHeard, rfl⟩,
      ⟨.configClamped, rfl⟩, ⟨.rescueIncomplete, rfl⟩, ⟨.comparator0, rfl⟩, ⟨.comparator1, rfl⟩, ⟨.comparator2, rfl⟩,
      ⟨.comparator3, rfl⟩, ⟨.planConcluded, rfl⟩, ⟨.rescueConcluded, rfl⟩]
  exact hall ⟨n, h⟩

/-- Flags under a mask: one is set that the mask holds. -/
theorem flags_and_ne_zero_iff (s : State) (m : BitVec 19) :
    s.flags &&& m ≠ 0#19 ↔ ∃ f : Flag, s.flagSet f = true ∧ m.getLsbD f.code = true := by
  constructor
  · intro h
    by_contra hn
    refine h (BitVec.eq_of_getLsbD_eq fun n hlt => ?_)
    obtain ⟨f, rfl⟩ := Flag.exists_code hlt
    rw [BitVec.getLsbD_and, BitVec.getLsbD_zero, Bool.and_eq_false_iff]
    by_contra hboth
    rw [not_or, Bool.not_eq_false, Bool.not_eq_false] at hboth
    exact hn ⟨f, hboth⟩
  · rintro ⟨f, hf, hm⟩ h0
    have hbit : (s.flags &&& m).getLsbD f.code = true := by
      rw [BitVec.getLsbD_and, hm, Bool.and_true]
      exact hf
    rw [h0, BitVec.getLsbD_zero] at hbit
    cases hbit

theorem faultBits_getLsbD (f : Flag) : (0x1F#19).getLsbD f.code = true ↔ f.code < 5 := by cases f <;> decide

theorem maskBits_getLsbD (mask : BitVec 14) (f : Flag) :
    (maskBits mask).getLsbD f.code = true ↔ mask.getLsbD (f.code - 5) = true ∧ 5 ≤ f.code := by
  have hlt := f.code_lt
  simp only [maskBits, BitVec.getLsbD_shiftLeft, BitVec.getLsbD_setWidth, Bool.and_eq_true, decide_eq_true_eq, Bool.not_eq_true',
    decide_eq_false_iff_not]
  constructor
  · rintro ⟨⟨-, h5⟩, -, hm⟩
    exact ⟨hm, by omega⟩
  · rintro ⟨hm, h5⟩
    exact ⟨⟨hlt, by omega⟩, by omega, hm⟩

theorem alert_working (hw : s.mode.working = true) :
    s.alert = (s.anyFault || decide (s.flags &&& maskBits s.conf.mask ≠ 0#19)) := by
  have hm : s.station.mode.working = true := hw
  rw [State.alert]
  cases h : s.station.mode with
  | loading | configFault => rw [h] at hm; cases hm
  | inventory | listenOnly | active | blackout => rfl

theorem cond_holds_eq (c : Cond) (x v : Int) :
    c.holds x v = match c with
      | .above => decide (x > v)
      | .below => decide (x < v)
      | .atOrAbove => decide (x ≥ v)
      | .atOrBelow => decide (x ≤ v) := by
  cases c <;> rfl

/-- A comparator fires when its result turns true (R151). -/
theorem fires_iff {k : Nat} {d : CompDef} (hen : d.enable = true) :
    s.fires k d = true ↔ d.cond.holds (s.sourceValue d.source) d.value = true ∧ s.comps.getD k false = false := by
  simp [State.fires, hen]

theorem evaluatesAt_iff {k : Nat} {d : CompDef} (hd : s.conf.comps[k]? = some d) :
    s.evaluatesAt k = true ↔ d.enable = true
      ∧ (d.cond.holds (s.sourceValue d.source) d.value = true ∧ s.comps.getD k false = false)
      ∧ d.action = .evaluate ∧ s.mode = .active ∧ s.planner.st = .idle ∧ s.isHeld = false ∧ s.meas.fresh = true := by
  simp only [State.evaluatesAt, hd, Option.any_some, Bool.and_eq_true, beq_iff_eq, canEvaluate_iff, State.fires, Bool.not_eq_true',
    and_assoc]

/-- An own hold of the configured time, asked by a comparator in ACTIVE (R131, R153). -/
theorem issueHold_active (hmode : s.mode = .active) (d : Nat) (r : Reason) :
    s.issueHold d r =
      let held : State :=
        { s with
          planner := { s.planner with ownHold := max s.planner.ownHold d }
          line := Line.refresh s.pins.lcd { s.line with qHold := some (mergeHold s.line.qHold ⟨d, r⟩) } }
      if s.isHeld = true ∨ d = 0 then held else held.becomesHeld := by
  rw [State.issueHold, State.offerHold, offer_active (by exact hmode)]
  by_cases hheld : s.isHeld = true
  · exact (if_pos hheld).trans (if_pos (.inl hheld)).symm
  · refine (if_neg hheld).trans ?_
    by_cases hd : d = 0
    · exact (if_neg (by omega)).trans (if_pos (.inr hd)).symm
    · exact (if_pos (by omega)).trans (if_neg fun h => h.elim hheld hd).symm

theorem compare_off {k : Nat} {d : CompDef} (taken : Bool) (hd : s.conf.comps[k]? = some d) (hen : d.enable = false) :
    s.compare taken k = s := by
  rw [State.compare, hd]
  exact if_neg (by simp [hen])

theorem compare_on {k : Nat} {d : CompDef} (taken : Bool) (hd : s.conf.comps[k]? = some d) (hen : d.enable = true) :
    s.compare taken k =
      let t : State := { s with comps := s.comps.set k (d.cond.holds (s.sourceValue d.source) d.value) }
      if s.fires k d then (t.setFlag (Flag.comparator k)).takeAction d.action taken else t := by
  rw [State.compare, hd]
  exact if_pos hen

/-- What a comparator's action does (R128, R153). -/
theorem takeAction_eq (a : Action) (taken : Bool) (t : State) :
    t.takeAction a taken =
      let held : State :=
        { t with
          planner := { t.planner with ownHold := max t.planner.ownHold t.conf.holdTime }
          line := Line.refresh t.pins.lcd { t.line with qHold := some (mergeHold t.line.qHold ⟨t.conf.holdTime, .comparator⟩) } }
      if (a = .evaluate ∧ t.mode = .active ∧ t.planner.st = .idle ∧ t.isHeld = false ∧ t.meas.fresh = true) ∧ taken = false then
        t.evaluated
      else if a = .hold ∧ t.mode = .active then if t.isHeld = true ∨ t.conf.holdTime = 0 then held else held.becomesHeld
      else t := by
  dsimp only
  by_cases hmode : t.mode = .active
  · refine (if_pos (isActive_iff.mpr hmode)).trans ?_
    cases a with
    | flag => simp
    | hold =>
      refine (issueHold_active hmode t.conf.holdTime .comparator).trans ?_
      simp [hmode]
    | evaluate =>
      cases taken with
      | true => simp
      | false =>
        change t.evalOnTrigger = _
        rw [State.evalOnTrigger]
        have hcan := canEvaluate_iff (s := t)
        by_cases hc : t.canEvaluate = true
        · rw [if_pos hc, if_pos ⟨⟨rfl, hcan.mp hc⟩, rfl⟩]
          exact evaluate_active hmode
        · rw [if_neg hc, if_neg fun h => hc (hcan.mpr h.1.2), if_neg (by simp)]
  · rw [if_neg fun h => hmode h.1.2.1, if_neg fun h => hmode h.2]
    exact if_neg fun h => hmode (isActive_iff.mp h)

end Sys2Proof.Machine

namespace Sys2Proof.Proofs
open Sys2Proof.Machine

/-- Settles O15: the placement by the connection's state, and the sums phase by phase. -/
theorem localVectorSumsPlacedCurrents : Obligations.LocalVectorSumsPlacedCurrents := by
  refine ⟨fun s i => ⟨fun hc hst => ?_, fun n v hc hst hn hv => ?_, fun hst => ?_⟩, fun s p => ⟨fun f => ?_, fun hcur => ?_, fun hway => ?_⟩⟩
  · rw [placement_of_counts hc]
    rcases hst with hst | hst | hst <;> rw [hst]
  · rw [placement_of_counts hc, hst, hn, hv]
    rfl
  · by_cases hc : s.configured i = true ∧ s.attrOf i ≠ .excluded
    · rw [placement_of_counts hc]
      rcases hst with hst | hst | hst | hst
      · rw [hst]
      · rw [hst]
      · rw [hst]
      · exact absurd hc hst
    · exact placement_not_counting hc
  · exact placedSum_get s f p
  · rw [placedSum_get]
    have h := sum_bounds (b := 1000) ((List.range 32).map (s.placedOn (fun _ => true) p)) fun x hx => by
      obtain ⟨i, -, rfl⟩ := List.mem_map.mp hx
      cases hpl : s.placement i with
      | none =>
        rw [placedOn_none _ p hpl]
        decide
      | some y =>
        obtain ⟨q, c⟩ := y
        have hc := hcur i q c hpl
        rw [placedOn_some _ p hpl]
        split <;> omega
    simpa using h
  · simp only [placedSum_get, ← List.sum_map_add]
    exact congrArg List.sum (List.map_congr_left fun i _ => placedOn_ways p (hway i))

/-- Settles O13: the values of steps 1 to 3, the order of the rest, and the record that leaves nothing for it to do. -/
theorem acceptedRecordIsHandled : Obligations.AcceptedRecordIsHandled := by
  intro rs volts w s hp hreading
  have hrow : exec (.acceptedRecord rs volts) s = .next (((s.afterRecord w rs).supervise volts).compareAll.endSettling) := by
    refine next_powered hp (f := fun t => match t.meas.reading with
      | some w => t.acceptRecord w rs volts
      | none => t) ?_
    simp only [hreading, State.acceptRecord, recordTaken_freshen]
  refine ⟨hrow, fun hwell hoff hsettles => ?_⟩
  have hwell' : ∀ p, (s.afterRecord w rs).present p = true ∧ (s.afterRecord w rs).conf.lossThr ≤ volts.get p := hwell
  rw [hrow, supervise_well hwell', State.compareAll]
  exact congrArg Host.Outcome.next ((congrArg State.endSettling (compareFrom_disabled _ _ (by exact hoff))).trans
    (endSettling_self (by exact hsettles)))

/-- Settles O14: the three looks in order, the watch's row, and a return's receivers. -/
theorem recordLosesAndReturnsPhases : Obligations.RecordLosesAndReturnsPhases := by
  refine ⟨fun volts s => ?_, fun p s hp hpresent hwatch => ?_, fun p s => ?_⟩
  · simp only [State.supervise, Phase.all, List.foldl_cons, List.foldl_nil, examine_eq]
  · exact next_powered hp (f := fun t => if (t.phases.get p).watch ∧ t.present p then t.phaseLoss p else t) (if_pos ⟨hwatch, hpresent⟩)
  · dsimp only
    rw [phaseReturn_eq, returnTaken_eq]
    obtain ⟨hstation, hcfg⟩ := rescueOver_kept
      { s.returned p with engine := { s.engine with rescue := s.engine.rescue.filter fun x => x.lost != p } }
    generalize hu : State.rescueOver { s.returned p with
      engine := { s.engine with rescue := s.engine.rescue.filter fun x => x.lost != p } } = u at hstation hcfg ⊢
    have hmode : u.mode = s.mode := congrArg Station.mode hstation
    have hconf : u.conf = s.conf := congrArg (·.getD Cfg.blank) hcfg
    have hst : u.station = s.station := hstation
    simp only [hmode, hconf, hst, Bool.not_eq_true']
    rw [← hu]
    rfl

/-- Settles O48: a comparator's evaluation by what its definition asks, the four in order, and ALERT by the flags. -/
theorem comparatorFiresAndAlertFollows : Obligations.ComparatorFiresAndAlertFollows := by
  refine ⟨fun k d taken s hk hd => ?_, fun s => ?_, fun s => ⟨fun hm => ?_, fun hm => ?_, fun hw => ?_⟩⟩
  · intro x now fires evaluates t held
    have hnow : d.cond.holds x d.value = now := by
      simp only [now]
      cases d.cond <;> rfl
    refine ⟨?_, (evaluatesAt_iff hd).trans (by rw [hnow])⟩
    cases hen : d.enable with
    | false => exact compare_off taken hd hen
    | true =>
      have hfires : s.fires k d = true ↔ fires := (fires_iff hen).trans (by rw [hnow])
      rw [compare_on taken hd hen, hnow]
      refine Eq.trans ?_ (if_neg Bool.noConfusion).symm
      by_cases hf : fires
      · have ht : State.setFlag (Flag.comparator k) { s with comps := s.comps.set k now } = t := by
          simp only [t]
          rw [State.setFlag, Flag.comparator_code hk, if_pos hf]
        rw [if_pos (hfires.mpr hf), if_neg (not_not.mpr hf), ht]
        exact takeAction_eq d.action taken t
      · rw [if_neg fun h => hf (hfires.mp h), if_pos hf]
        simp only [t]
        rw [if_neg hf]
  · simp [State.compareAll, State.compareFrom, List.range_succ]
  · have h : s.station.mode = .loading := hm
    rw [State.alert, h]
  · have h : s.station.mode = .configFault := hm
    rw [State.alert, h]
  · rw [alert_working hw, Bool.or_eq_true, State.anyFault, decide_eq_true_eq, decide_eq_true_eq, flags_and_ne_zero_iff,
      flags_and_ne_zero_iff, ← exists_or]
    simp only [faultBits_getLsbD, maskBits_getLsbD, ← and_or_left]

end Sys2Proof.Proofs


/-! The loss of a phase while another stays PRESENT: the reference moved, the rescue list filled, the engine's request and then the planner
told (R4, R6, R9, R53, R76, R79). -/

namespace Sys2Proof.Machine

variable {s : State} {m : MoveReq}

/-! ### A failure does not depend on the step it is met at (R69, R72, R73) -/

/-- What a FALLBACK's failure leaves does not depend on the request's step, nor on what the engine holds of it. -/
theorem failFallback_anyStep (s : State) (m : MoveReq) (r : Option Req) (st : MoveStep) (n : Nat) :
    (s.setReq r).failFallback { m with step := st, cycles := n } = s.failFallback m := by
  rw [State.failFallback, State.failFallback, concludeMove_eq, concludeMove_eq, recordConclusion_flagged (by simp),
    recordConclusion_flagged (by simp)]
  rfl

theorem attemptFailed_anyReq (s : State) (i : Nat) (r : Option Req) : (s.setReq r).attemptFailed i = s.attemptFailed i := by
  rw [State.attemptFailed, State.attemptFailed, setFlagIf_eq, setFlagIf_eq]
  rfl

/-- The row of a FALLBACK's wait at its end (R68). -/
theorem exec_fallbackWaitLimit {x : Phase} (hp : s.pins.pornLow = false) (hreq : s.engine.req = some (.move m)) (hs : m.step = .fbWait x)
    (hc : m.cycles = 0) : exec .fallbackWaitLimit s = .next (s.failFallback m) := by
  refine next_powered hp (f := State.fallbackWaitLimit) ?_
  rw [State.fallbackWaitLimit, expired_of hreq hc]
  dsimp only
  rw [hs]

/-- The row of a recovery's wait at its end (R73). -/
theorem exec_recoveryWaitLimit {i : Nat} {x : Phase} (hp : s.pins.pornLow = false) (hreq : s.engine.req = some (.recovery i (.wait x) 0)) :
    exec .recoveryWaitLimit s = .next (s.attemptFailed i) := by
  refine next_powered hp (f := State.recoveryWaitLimit) ?_
  rw [State.recoveryWaitLimit, expired_of hreq rfl]

/-! ### The reference (R4) -/

/-- With the phase `p` LOST, the first of the others that is PRESENT is the reference. -/
theorem chosenRef_without (s : State) (p : Phase) :
    State.chosenRef (s.modPhase p fun x => { x with present := false, watch := false, returns := 0 })
      = Phase.all.find? fun x => x != p && s.present x := by
  rw [chosenRef_eq_find?]
  congr 1
  funext x
  rw [present_modPhase]
  by_cases hx : p = x
  · simp [hx]
  · have hne : (x != p) = true := by simpa using Ne.symm hx
    rw [if_neg hx, hne, Bool.true_and]

/-- A search that did not find `p` finds the same without it. -/
theorem find?_without {f : Phase → Bool} {p : Phase} (l : List Phase) (h : l.find? f ≠ some p) :
    (l.find? fun x => x != p && f x) = l.find? f := by
  induction l with
  | nil => rfl
  | cons x l ih =>
    rw [List.find?_cons, List.find?_cons]
    cases hx : f x with
    | true =>
      rw [List.find?_cons_of_pos hx] at h
      have hne : (x != p) = true := by simpa using fun heq : x = p => h (congrArg some heq)
      rw [hne]
      rfl
    | false =>
      rw [List.find?_cons_of_neg (by simp [hx])] at h
      rw [Bool.and_false]
      exact ih h

/-- The state a loss leaves before its receivers take it: the phase LOST, the reference chosen again. -/
def State.lost (s : State) (p : Phase) : State :=
  { s with
    phases := s.phases.set p { s.phases.get p with present := false, watch := false, returns := 0 }
    flags := s.flags ||| BitVec.twoPow 19 5
    time :=
      if s.time.ref = some p then { s.time with ref := Phase.all.find? fun x => x != p && s.present x, changing := true }
      else s.time }

theorem chooseRef_lost {p q : Phase} (hpq : p ≠ q) (hq : s.present q = true) (href : s.time.ref = s.chosenRef) :
    ((s.modPhase p fun x => { x with present := false, watch := false, returns := 0 }).setFlag .phaseLost).chooseRef = s.lost p := by
  have hpresent : ((s.modPhase p fun x => { x with present := false, watch := false, returns := 0 }).setFlag .phaseLost).present q = true := by
    refine (present_modPhase p q (fun x => { x with present := false, watch := false, returns := 0 }) s).trans ?_
    rw [if_neg hpq]
    exact hq
  have hchosen : State.chosenRef ((s.modPhase p fun x => { x with present := false, watch := false, returns := 0 }).setFlag .phaseLost)
      = Phase.all.find? fun x => x != p && s.present x := chosenRef_without s p
  have htime : (if (Phase.all.find? fun x => x != p && s.present x) = s.time.ref then s.time
        else { s.time with ref := Phase.all.find? fun x => x != p && s.present x, changing := s.time.ref.isSome })
      = if s.time.ref = some p then { s.time with ref := Phase.all.find? fun x => x != p && s.present x, changing := true }
        else s.time := by
    by_cases hr : s.time.ref = some p
    · have hne : (Phase.all.find? fun x => x != p && s.present x) ≠ s.time.ref := by
        intro h
        have hfound := List.find?_some (h.trans hr)
        simp at hfound
      rw [if_neg hne, if_pos hr, hr]
      rfl
    · have hsame : (Phase.all.find? fun x => x != p && s.present x) = s.time.ref := by
        rw [href, chosenRef_eq_find?] at hr ⊢
        exact find?_without _ hr
      rw [if_pos hsame, if_neg hr]
  rw [chooseRef_of_return q hpresent, hchosen, State.lost, ← htime]
  rfl

/-! ### The rescue list (R53, R76) -/

/-- Connections are appended in order, each that is not listed. -/
theorem foldl_appendRescue (p : Phase) (l : List Nat) (s : State) (hl : l.Nodup) :
    l.foldl (State.appendRescue p) s =
      { s with engine := { s.engine with
        rescue := s.engine.rescue ++ (l.filter fun j => !s.engine.lists j).map fun j => ⟨j, (s.held j).value, p⟩ } } := by
  induction l generalizing s with
  | nil => simp
  | cons j l ih =>
    obtain ⟨hj, hl⟩ := List.nodup_cons.mp hl
    rw [List.foldl_cons, ih _ hl, State.appendRescue]
    cases hlist : s.engine.lists j with
    | true => simp [hlist]
    | false =>
      have hothers : ∀ k ∈ l, (Engine.lists { s.engine with rescue := s.engine.rescue ++ [⟨j, (s.held j).value, p⟩] } k)
          = s.engine.lists k := by
        intro k hk
        have hne : (j == k) = false := by
          simpa using fun h : j = k => hj (h ▸ hk)
        simp [Engine.lists, hne]
      have hfilter : (l.filter fun k => !Engine.lists { s.engine with rescue := s.engine.rescue ++ [⟨j, (s.held j).value, p⟩] } k)
          = l.filter fun k => !s.engine.lists k := List.filter_congr fun k hk => by rw [hothers k hk]
      rw [if_neg Bool.false_ne_true, List.filter_cons_of_pos (by simp [hlist])]
      simp only [State.modEngine, hfilter, List.map_cons, List.append_assoc, List.singleton_append]
      rfl

/-- What a loss adds to the rescue list, in ACTIVE alone. -/
theorem appendSelected_eq (p : Phase) (s : State) :
    s.appendSelected p =
      { s with engine := { s.engine with
        rescue := s.engine.rescue ++
          if s.mode = .active then
            ((List.range 32).filter fun j => s.rescueSelected p j && !s.engine.lists j).map fun j => ⟨j, (s.held j).value, p⟩
          else [] } } := by
  rw [State.appendSelected]
  by_cases hmode : s.mode = .active
  · rw [if_pos (isActive_iff.mpr hmode), if_pos hmode, foldl_appendRescue _ _ _ (List.Nodup.filter _ List.nodup_range),
      List.filter_filter]
    simp only [Bool.and_comm]
  · rw [if_neg fun h => hmode (isActive_iff.mp h), if_neg hmode, List.append_nil]

/-! ### The request in flight (R79) -/

/-- A state known by cases is the value of the same cases. -/
theorem ite_eq_of_ite {c : Prop} [Decidable c] {P : Prop} {a u t : State} (ht : if c then P else t = u) (h : c → P → a = t) :
    (if c then a else u) = t := by
  split
  next hc =>
    rw [if_pos hc] at ht
    exact h hc ht
  next hc =>
    rw [if_neg hc] at ht
    exact ht.symm

theorem fallbackTarget_eq (s : State) (m : MoveReq) :
    s.fallbackTarget m = if m.rescue = false ∧ s.present m.src = true then some m.src else s.otherTarget m := by
  by_cases h : m.rescue = false ∧ s.present m.src = true
  · rw [if_pos h]
    exact if_pos (by simp [h])
  · rw [if_neg h]
    refine fallbackTarget_other ?_
    cases hr : m.rescue with
    | true => exact .inl rfl
    | false => exact .inr (by simpa [hr] using h)

/-- A loss with another phase PRESENT: the rescue list, the engine and then the planner take it (R6, R9). -/
theorem phaseLoss_eq {p q : Phase} (hpq : p ≠ q) (hq : s.present q = true) (href : s.time.ref = s.chosenRef) :
    s.phaseLoss p = (((s.lost p).appendSelected p).engineLoss p).plannerPhaseLoss := by
  have hpresent : (s.lost p).present q = true := by
    refine (present_modPhase p q (fun x => { x with present := false, watch := false, returns := 0 }) s).trans ?_
    rw [if_neg hpq]
    exact hq
  have hany : (s.lost p).lossLeadsToBlackout = false := by
    have h : (s.lost p).anyPresent = true := by
      rw [anyPresent_iff]
      cases q <;> simp [hpresent]
    simp [State.lossLeadsToBlackout, h]
  rw [State.phaseLoss, chooseRef_lost hpq hq href]
  exact if_neg (by simp [hany])

end Sys2Proof.Machine

namespace Sys2Proof.Proofs
open Sys2Proof.Machine

/-- Settles O10: the loss as its receivers take it, the engine's answer told by the request in flight. -/
theorem watchExpiryLosesThePhase : Obligations.WatchExpiryLosesThePhase := by
  intro p q s t hp hpresent hwatch hpq hq href
  have hrow : exec (.crossingWatchExpiry p) s = .next (s.phaseLoss p) :=
    next_powered hp (f := fun t => if (t.phases.get p).watch ∧ t.present p then t.phaseLoss p else t) (if_pos ⟨hwatch, hpresent⟩)
  have hselected := appendSelected_eq p (s.lost p)
  have hrescue : (fun j => (s.lost p).rescueSelected p j) = fun j => s.rescueSelected p j := rfl
  intro u waits failing ht
  have hu : (s.lost p).appendSelected p = u := hselected
  have hpu : u.pins.pornLow = false := hp
  have hreq : u.engine.req = s.engine.req := rfl
  have hout : u.out = s.out := rfl
  clear_value u
  rw [hrow, phaseLoss_eq hpq hq href, hu]
  suffices h : u.engineLoss p = t by rw [h]
  have hfailing (m : MoveReq) (h : failing m = .next t) : u.failFallback m = t := by
    have hlimit := exec_fallbackWaitLimit (s := u.setReq (some (.move { m with step := .fbWait p, cycles := 0 }))) hpu rfl rfl rfl
    rw [failFallback_anyStep] at hlimit
    exact Host.Outcome.next.inj (hlimit.symm.trans h)
  unfold State.engineLoss
  rw [hreq]
  cases hr : s.engine.req with
  | none =>
    rw [hr] at ht
    exact ht.symm
  | some r =>
    rw [hr] at ht
    cases r with
    | move m =>
      dsimp only at ht ⊢
      cases hs : m.step with
      | breakWait =>
        rw [hs] at ht
        refine ite_eq_of_ite ht fun _ hsent => ?_
        rw [hsent, ← hout]
        rfl
      | gap =>
        rw [hs] at ht
        refine ite_eq_of_ite ht fun _ hgap => ?_
        rw [← fallbackTarget_eq] at hgap
        rw [State.enterFallback]
        cases hx : u.fallbackTarget m with
        | some x =>
          rw [hx] at hgap
          exact hgap.symm
        | none =>
          rw [hx] at hgap
          exact hfailing m hgap
      | fbWait x =>
        rw [hs] at ht
        exact ite_eq_of_ite ht fun _ => hfailing m
      | arming | breakSent | breakQuery | making | fbMake | settling =>
        rw [hs] at ht
        exact ht.symm
    | recovery i st n =>
      cases st with
      | wait x =>
        refine ite_eq_of_ite ht fun _ hfailed => ?_
        have hlimit := exec_recoveryWaitLimit (s := u.setReq (some (.recovery i (.wait p) 0))) hpu rfl
        rw [attemptFailed_anyReq] at hlimit
        exact Host.Outcome.next.inj (hlimit.symm.trans hfailed)
      | query | make => exact ht.symm
    | check | inventory => exact ht.symm

end Sys2Proof.Proofs


/-! One second in the part: the timers of every block, the neighbour table taken whole, and the release its notices may bring (R5, R28, R30,
R83, R86, R87, R117 to R121, R125, R130, R135). -/

namespace Sys2Proof.Machine

variable {s t : State}

/-! ### A second in the records, the budget, the line and the table -/

theorem Budget.samplingEnd_eq (window : Nat) (b : Budget) :
    b.samplingEnd window =
      { b with
        sampCount := if b.running && b.sampLeft == 0 then 0 else b.sampCount
        sampLeft := if b.running && b.sampLeft == 0 then window else b.sampLeft } := by
  by_cases h : b.running = true ∧ b.sampLeft = 0 <;> simp [Budget.samplingEnd, h]

theorem Budget.throttleEnd_eq (b : Budget) :
    b.throttleEnd =
      { b with
        throttled := b.throttled && b.throttleLeft != 0
        sampCount := if b.throttled && b.throttleLeft == 0 then 0 else b.sampCount
        monLeft := if b.throttled && b.throttleLeft == 0 then 0 else b.monLeft
        monCount := if b.throttled && b.throttleLeft == 0 then 0 else b.monCount } := by
  by_cases h : b.throttled = true ∧ b.throttleLeft = 0
  · obtain ⟨ht, h0⟩ := h
    simp [Budget.throttleEnd, ht, h0]
  · have hleft : (b.throttled && b.throttleLeft == 0) = false := by simpa using h
    have hstill : (b.throttled && b.throttleLeft != 0) = b.throttled := by
      cases ht : b.throttled with
      | false => rfl
      | true => simpa [ht] using h
    rw [hleft, hstill]
    exact if_neg h

theorem Budget.monitoringEnd_eq (window : Nat) (b : Budget) :
    b.monitoringEnd window =
      { b with
        monCount := if b.throttled && b.monLeft == 0 then 0 else b.monCount
        monLeft := if b.throttled && b.monLeft == 0 then window else b.monLeft } := by
  by_cases h : b.throttled = true ∧ b.monLeft = 0 <;> simp [Budget.monitoringEnd, h]

/-- A second in the budget, each end taken by the tick that brings it (R83, R86, R87, R90). -/
theorem Budget.second_eq (sampling monitoring : Nat) (b : Budget) :
    b.second sampling monitoring =
      let expires := b.throttled && decide (b.throttleLeft ≤ 1)
      let monEnds := b.throttled && decide (b.monLeft ≤ 1)
      let sampEnds := b.running && decide (b.sampLeft ≤ 1)
      { b with
        throttled := b.throttled && !expires
        sampCount := if sampEnds || expires then 0 else b.sampCount
        sampLeft := if sampEnds then sampling else if b.running then b.sampLeft - 1 else b.sampLeft
        throttleLeft := if b.throttled then b.throttleLeft - 1 else b.throttleLeft
        monLeft := if expires then 0 else if monEnds then monitoring else if b.throttled then b.monLeft - 1 else b.monLeft
        monCount := if expires || monEnds then 0 else b.monCount } := by
  have hend (n : Nat) : (n - 1 == 0) = decide (n ≤ 1) := by
    rw [Bool.eq_iff_iff, beq_iff_eq, decide_eq_true_eq]
    omega
  rw [Budget.second, Budget.monitoringEnd_eq, Budget.throttleEnd_eq, Budget.samplingEnd_eq]
  have hstill (n : Nat) : (n - 1 != 0) = !decide (n ≤ 1) := by rw [bne, hend]
  cases hr : b.running <;> cases ht : b.throttled <;> simp only [Budget.counted, hr, ht, hend, hstill, Bool.true_and, Bool.false_and,
    Bool.false_eq_true, if_true, if_false, Bool.false_or, Bool.or_false, Bool.not_false]
  all_goals cases decide (b.throttleLeft ≤ 1) <;> cases decide (b.sampLeft ≤ 1) <;> simp [hend]

theorem Line.second_eq (lcd : Bool) (l : Line) :
    l.second lcd = match l.qHold with
      | some h => if h.dur ≤ 1 then Line.refresh lcd { l with qHold := none } else { l with qHold := some { h with dur := h.dur - 1 } }
      | none => l := by
  unfold Line.second
  cases l.qHold <;> rfl

/-- A second in an entry (R118 to R121). -/
theorem Entry.second_eq (staleAt forgetAt : Nat) (e : Entry) :
    e.second staleAt forgetAt =
      if forgetAt ≤ e.age + 1 then none
      else if e.fresh = false then some { e with age := e.age + 1 }
      else if staleAt ≤ e.age + 1 then some ⟨e.addr, false, e.age + 1, none, none, e.last, 0, none, none⟩
      else some
        { e with
          age := e.age + 1
          intent := e.intent.bind fun i => if i.life ≤ 1 then none else some { i with life := i.life - 1 }
          hold := e.hold.bind fun h => if h.left ≤ 1 then none else some { h with left := h.left - 1 } } := by
  unfold Entry.second
  cases e.fresh <;> rfl

/-! ### The notices of a second (R117, R135) -/

/-- The pairs that the clearing of a pending intent takes off the precedence list. -/
def clearedNotices (addr : Nat) : Option PIntent → List (PrecPair → Bool)
  | some i => [fun k => k.addr == addr && k.num == i.num]
  | none => []

/-- The pairs that an entry's second takes off the precedence list: every one of its address when it goes or goes STALE, and the one
of its pending intent when that is cleared (R117). -/
def entryNotices (old : Entry) (e : Option Entry) : List (PrecPair → Bool) :=
  (if e.all fun x => old.fresh && !x.fresh then [fun k => k.addr == old.addr] else [])
    ++ if (e.bind (·.intent)).isSome then [] else clearedNotices old.addr old.intent

/-- The notices of the whole table. -/
def tableNotices (before after : List (Option Entry)) : List (PrecPair → Bool) :=
  (before.zip after).flatMap fun x => match x.1 with
    | some old => entryNotices old x.2
    | none => []

/-- Notices handed in order. -/
def State.removeAll (s : State) (l : List (PrecPair → Bool)) : State := l.foldl (fun t g => t.removePairs g) s

theorem onEntrySecond_eq (old : Entry) (e : Option Entry) (s : State) : s.onEntrySecond old e = s.removeAll (entryNotices old e) := by
  simp only [State.onEntrySecond, entryNotices, State.removeAll, List.foldl_append]
  have hcleared (t : State) : t.onCleared old.addr old.intent = t.removeAll (clearedNotices old.addr old.intent) := by
    cases old.intent <;> rfl
  split <;> split
  case isFalse.isTrue | isFalse.isFalse => exact hcleared _
  all_goals rfl

theorem onTableSecond_eq (before after : List (Option Entry)) (s : State) :
    s.onTableSecond before after = s.removeAll (tableNotices before after) := by
  simp only [State.onTableSecond, tableNotices, State.removeAll, List.foldl_flatMap]
  refine List.foldl_ext _ _ _ fun t x _ => ?_
  obtain ⟨old, e⟩ := x
  cases old with
  | none => rfl
  | some old => exact onEntrySecond_eq old e t

theorem removeAll_empty (l : List (PrecPair → Bool)) (h : s.planner.prec = []) : s.removeAll l = s := by
  induction l with
  | nil => rfl
  | cons g l ih => exact (congrArg (State.removeAll · l) (removePairs_empty g h)).trans ih

theorem releasePlanner_prec (h : s.planner.prec = []) : s.releasePlanner.planner.prec = [] := by
  have hrecheck : (State.recheck (s.modPlanner fun p => { p with listenT := none })).planner.prec = [] := by
    unfold State.recheck
    split
    · exact h
    · split
      · exact prec_plannerKept.withdraw h
      · exact h
  simp only [State.releasePlanner]
  split
  · exact prec_plannerKept.keptByEngine.arbitrate hrecheck
  · exact hrecheck

/-- The precedence list without the pairs that some notice names. -/
def State.kept (s : State) (l : List (PrecPair → Bool)) : List PrecPair := s.planner.prec.filter fun k => !l.any fun g => g k

/-- Notices take their pairs off the list together; in HELD the one that empties it releases the planner, once (R135). -/
theorem removeAll_eq (l : List (PrecPair → Bool)) (s : State) :
    s.removeAll l =
      if s.planner.st = .held ∧ s.planner.prec ≠ [] ∧ s.kept l = [] then
        State.releasePlanner { s with planner := { s.planner with prec := [] } }
      else { s with planner := { s.planner with prec := s.kept l } } := by
  induction l generalizing s with
  | nil =>
    have hkept : s.kept [] = s.planner.prec := by simp [State.kept]
    rw [hkept, if_neg fun h => h.2.1 h.2.2]
    rfl
  | cons g l ih =>
    have hkept : s.kept (g :: l) = (s.planner.prec.filter fun k => !g k).filter fun k => !l.any fun g => g k := by
      rw [State.kept, List.filter_filter]
      exact List.filter_congr fun k _ => by rw [List.any_cons, Bool.not_or, Bool.and_comm]
    change (s.removePairs g).removeAll l = _
    by_cases hrel : s.planner.st = .held ∧ s.planner.prec ≠ [] ∧ (s.planner.prec.filter fun k => !g k) = []
    · obtain ⟨hst, hne, hnone⟩ := hrel
      have hreleased : s.removePairs g = State.releasePlanner { s with planner := { s.planner with prec := [] } } := by
        simp only [State.removePairs, State.modPlanner, hnone]
        exact if_pos ⟨hst, hne, trivial⟩
      rw [hreleased, removeAll_empty l (releasePlanner_prec rfl), if_pos ⟨hst, hne, by rw [hkept, hnone]; rfl⟩]
    · have hcut : s.removePairs g = { s with planner := { s.planner with prec := s.planner.prec.filter fun k => !g k } } := if_neg hrel
      rw [hcut, ih]
      change (if s.planner.st = .held ∧ (s.planner.prec.filter fun k => !g k) ≠ []
          ∧ ((s.planner.prec.filter fun k => !g k).filter fun k => !l.any fun g => g k) = [] then _
        else ({ s with planner := { s.planner with
          prec := (s.planner.prec.filter fun k => !g k).filter fun k => !l.any fun g => g k } } : State)) = _
      rw [← hkept]
      by_cases hall : s.planner.st = .held ∧ s.planner.prec ≠ [] ∧ s.kept (g :: l) = []
      · obtain ⟨hst, hne, hnone⟩ := hall
        rw [if_pos ⟨hst, fun h => hrel ⟨hst, hne, h⟩, hnone⟩, if_pos ⟨hst, hne, hnone⟩]
      · rw [if_neg hall, if_neg]
        rintro ⟨hst, hne, hnone⟩
        exact hall ⟨hst, fun h => hne (by rw [h]; rfl), hnone⟩

/-! ### Which pairs a second takes off (R117 to R120) -/

theorem clearedNotices_any (addr : Nat) (i : Option PIntent) (k : PrecPair) :
    ((clearedNotices addr i).any fun g => g k) = (k.addr == addr && i.any fun x => k.num == x.num) := by
  cases i <;> simp [clearedNotices]

/-- The pairs of an entry that its second takes off the precedence list. -/
theorem entryNotices_any (staleAt forgetAt : Nat) (e : Entry) (k : PrecPair) :
    ((entryNotices e (e.second staleAt forgetAt)).any fun g => g k) =
      (k.addr == e.addr && (decide (forgetAt ≤ e.age + 1) || (e.fresh && (decide (staleAt ≤ e.age + 1)
        || e.intent.any fun i => k.num == i.num && decide (i.life ≤ 1))))) := by
  rw [entryNotices, List.any_append, Entry.second_eq]
  by_cases hforget : forgetAt ≤ e.age + 1
  · cases hi : e.intent with
    | none => simp [hforget, clearedNotices]
    | some i =>
      simp [hforget, clearedNotices]
      exact fun h _ => h
  · cases hf : e.fresh with
    | false => cases e.intent <;> simp [hforget, clearedNotices]
    | true =>
      by_cases hstale : staleAt ≤ e.age + 1
      · cases hi : e.intent with
        | none => simp [hforget, hstale, clearedNotices]
        | some i =>
          simp [hforget, hstale, clearedNotices]
          exact fun h _ => h
      · cases hi : e.intent with
        | none => simp [hforget, hstale, clearedNotices]
        | some i => by_cases hlife : i.life ≤ 1 <;> simp [hforget, hstale, hlife, clearedNotices]

theorem tableNotices_any (staleAt forgetAt : Nat) (nbrs : List (Option Entry)) (k : PrecPair) :
    ((tableNotices nbrs (nbrs.map fun e => e.bind (Entry.second staleAt forgetAt))).any fun g => g k) =
      nbrs.any fun x => x.any fun e =>
        k.addr == e.addr && (decide (forgetAt ≤ e.age + 1) || (e.fresh && (decide (staleAt ≤ e.age + 1)
          || e.intent.any fun i => k.num == i.num && decide (i.life ≤ 1)))) := by
  induction nbrs with
  | nil => rfl
  | cons x l ih =>
    have hcons : tableNotices (x :: l) ((x :: l).map fun e => e.bind (Entry.second staleAt forgetAt))
        = (match x with
            | some old => entryNotices old (x.bind (Entry.second staleAt forgetAt))
            | none => [])
          ++ tableNotices l (l.map fun e => e.bind (Entry.second staleAt forgetAt)) := by
      simp [tableNotices]
    rw [hcons, List.any_append, ih, List.any_cons]
    cases x with
    | none => rfl
    | some e => rw [Option.any_some, ← entryNotices_any]; rfl

/-! ### The release, once (R135, R138) -/

/-- A planner that is not HELD is not HELD whatever the transfer engine takes. -/
theorem held_plannerKept : PlannerKept fun p => p.st ≠ .held where
  cleared _ _ h := nomatch h
  plan _ _ h := h
  noted _ _ h := h
  last _ _ h := h
  ownHold _ _ h := h
  evalT _ _ h := h

theorem released_not_held (p : Plan) (s : State) : (s.released p).planner.st ≠ .held := by
  unfold State.released
  dsimp only
  split
  · exact fun h => nomatch h
  · exact held_plannerKept.keptByEngine.arbitrate (by exact fun h => nomatch h)

/-- The planner after a tick's notices, and what it makes of them: a HELD planner whose list they empty is released, or withdraws where
its own lifetime ends at the tick and the draw says so (R117, R135, R139, R148). -/
def State.noticed (s : State) (prec : List PrecPair) : State :=
  let u : State := { s with planner := { s.planner with prec := prec } }
  match s.planner.plan with
  | some p =>
    if s.planner.st = .held ∧ s.planner.prec ≠ [] ∧ prec = [] then
      if u.planner.lifetimeT = some 0 then
        if u.drawValue 1 = 0 then State.withdrawn { u with draws := u.draws + 1 } p
        else State.released { u with draws := u.draws + 1 } p
      else u.released p
    else u
  | none => u

/-- The list emptied in HELD (R135, R148). -/
theorem noticed_release {p : Plan} (hst : s.planner.st = .held) (hne : s.planner.prec ≠ []) (hp : s.planner.plan = some p) :
    s.noticed [] =
      let u : State := { s with planner := { s.planner with prec := [] } }
      if s.planner.lifetimeT = some 0 then
        if s.drawValue 1 = 0 then State.withdrawn { u with draws := s.draws + 1 } p
        else State.released { u with draws := s.draws + 1 } p
      else u.released p := by
  unfold State.noticed
  split
  next x hx =>
    obtain rfl : p = x := Option.some.inj (hp.symm.trans hx)
    exact if_pos ⟨hst, hne, rfl⟩
  next hx => rw [hp] at hx; cases hx

theorem noticed_stay {l : List PrecPair} (h : ¬(s.planner.st = .held ∧ s.planner.prec ≠ [] ∧ l = [])) :
    s.noticed l = { s with planner := { s.planner with prec := l } } := by
  unfold State.noticed
  split
  · exact if_neg h
  · rfl

theorem noticesOrLapse_eq (before after : List (Option Entry))
    (hheld : s.planner.st = .held → s.mode = .active ∧ s.planner.plan ≠ none) :
    s.noticesOrLapse before after = s.noticed (s.kept (tableNotices before after)) := by
  by_cases hrel : s.planner.st = .held ∧ s.planner.prec ≠ [] ∧ s.kept (tableNotices before after) = []
  · obtain ⟨hst, hne, hnone⟩ := hrel
    obtain ⟨hmode, hplan⟩ := hheld hst
    obtain ⟨p, hp⟩ := Option.ne_none_iff_exists'.mp hplan
    have hreleased (d : Nat) : State.onTableSecond before after { s with draws := d }
        = State.released { s with planner := { s.planner with prec := [] }, draws := d } p := by
      rw [onTableSecond_eq, removeAll_eq, if_pos ⟨hst, hne, hnone⟩]
      exact releasePlanner_active (s := { s with planner := { s.planner with prec := [] }, draws := d }) hmode hp
    have hfirst : s.onTableSecond before after = State.released { s with planner := { s.planner with prec := [] } } p :=
      hreleased s.draws
    rw [hnone, noticed_release hst hne hp, State.noticesOrLapse, hfirst]
    by_cases hlife : s.planner.lifetimeT = some 0
    · refine (if_pos ⟨hst, hlife, released_not_held _ _⟩).trans (Eq.trans ?_ (if_pos hlife).symm)
      rw [withdraw_active (s := s.drawn) hmode hp]
      exact congrArg (ite _ _) (hreleased (s.draws + 1))
    · exact (if_neg fun h => hlife h.2.1).trans (if_neg hlife).symm
  · rw [noticed_stay hrel, State.noticesOrLapse, onTableSecond_eq, removeAll_eq, if_neg hrel]
    exact if_neg fun h => h.2.2 h.1

/-- No hold begins at a tick. -/
theorem peerHeld_second {staleAt forgetAt : Nat} (h : t.nbrs = s.nbrs.map fun e => e.bind (Entry.second staleAt forgetAt))
    (hheld : t.peerHeld = true) : s.peerHeld = true := by
  obtain ⟨x, hx, hhold⟩ := List.any_eq_true.mp hheld
  rw [h] at hx
  obtain ⟨e, he, rfl⟩ := List.mem_map.mp hx
  refine List.any_eq_true.mpr ⟨e, he, ?_⟩
  cases e with
  | none => exact hhold
  | some e =>
    rw [Option.bind_some, Entry.second_eq] at hhold
    cases hh : e.hold with
    | none =>
      rw [hh] at hhold
      split at hhold
      · cases hhold
      · split at hhold
        · simp at hhold
        · split at hhold <;> cases hhold
    | some y => simp [hh]

/-- The table takes the tick whole (R117 to R121). -/
theorem tableSecond_eq (hheld : s.planner.st = .held → s.mode = .active ∧ s.planner.plan ≠ none) :
    s.tableSecond =
      State.noticed { s with nbrs := s.nbrs.map fun e => e.bind (Entry.second (3 * s.conf.report) (10 * s.conf.report)) }
        (s.planner.prec.filter fun k => !(s.nbrs.any fun x => x.any fun e =>
          k.addr == e.addr && (decide (10 * s.conf.report ≤ e.age + 1) || (e.fresh && (decide (3 * s.conf.report ≤ e.age + 1)
            || e.intent.any fun i => k.num == i.num && decide (i.life ≤ 1)))))) := by
  have hnotices := noticesOrLapse_eq
    (s := { s with nbrs := s.nbrs.map fun e => e.bind (Entry.second (3 * s.conf.report) (10 * s.conf.report)) }) s.nbrs
    (s.nbrs.map fun e => e.bind (Entry.second (3 * s.conf.report) (10 * s.conf.report))) hheld
  simp only [State.kept, tableNotices_any] at hnotices
  rw [← hnotices]
  exact onPeerHold_not_new fun h =>
    peerHeld_second (staleAt := 3 * s.conf.report) (forgetAt := 10 * s.conf.report) (State.noticesOrLapse_frame ..).2.2.2.2.2.2.1 h

end Sys2Proof.Machine

namespace Sys2Proof.Proofs
open Sys2Proof.Machine

/-- Settles O9: the timers block by block, and then the table with the release its notices bring. -/
theorem secondsTickCountsEveryTimer : Obligations.SecondsTickCountsEveryTimer := by
  intro s hp hheld
  dsimp only
  have hsecond (t : State) (ht : t.planner.st = .held → t.mode = .active ∧ t.planner.plan ≠ none) :
      t.countSecond.tableSecond = _ := tableSecond_eq (s := t.countSecond) ht
  refine next_powered hp (f := State.secondsTick) ?_
  rw [State.secondsTick]
  by_cases hdue : 0 < s.time.ticksDue
  · rw [if_pos hdue, if_pos hdue, State.second, hsecond (s.modTime fun t => { t with ticksDue := t.ticksDue - 1 }) hheld]
    simp only [State.noticed, State.countSecond, State.modTime, Budget.second_eq, Line.second_eq, Entry.second_eq]
    rfl
  · rw [if_neg hdue, if_neg hdue]
    cases hsource : s.time.source with
    | mains => rfl
    | holdover =>
      simp only [if_true]
      rw [State.second, hsecond _ hheld]
      simp only [State.noticed, State.countSecond, Budget.second_eq, Line.second_eq, Entry.second_eq]
      rfl

end Sys2Proof.Proofs


/-! The loss of the last PRESENT phase: what the engine and the planner can still do with no phase PRESENT, and the entry to BLACKOUT, which
leaves the same station in either order (R4, R5, R9, R73, R79, R80, R107, R146, R173). -/

namespace Sys2Proof.Machine

variable {s t u : State} {m : MoveReq} {i : Nat}

/-! ### What leaves records and phases alone and sets flags only -/

/-- `t` has the records and the phases of `s`, and its flags too. -/
structure State.Follows (s t : State) : Prop where
  conns : t.conns = s.conns
  phases : t.phases = s.phases
  flags : ∀ f, s.flagSet f = true → t.flagSet f = true

namespace State.Follows

theorem of_flags (hconns : t.conns = s.conns) (hphases : t.phases = s.phases) (hflags : t.flags = s.flags) : s.Follows t where
  conns := hconns
  phases := hphases
  flags f h := by rwa [State.flagSet, hflags]

theorem refl (s : State) : s.Follows s := of_flags rfl rfl rfl

theorem trans (h : s.Follows t) (h' : t.Follows u) : s.Follows u where
  conns := h'.conns.trans h.conns
  phases := h'.phases.trans h.phases
  flags f hf := h'.flags f (h.flags f hf)

/-- Before it, what changes none of the three. -/
theorem after (h : t.Follows u) (hconns : t.conns = s.conns) (hphases : t.phases = s.phases) (hflags : t.flags = s.flags) : s.Follows u :=
  (of_flags hconns hphases hflags).trans h

/-- After it, what changes none of the three. -/
theorem before (h : s.Follows t) (hconns : u.conns = t.conns) (hphases : u.phases = t.phases) (hflags : u.flags = t.flags) : s.Follows u :=
  h.trans (of_flags hconns hphases hflags)

theorem raised (s : State) (x : BitVec 19) : s.Follows { s with flags := s.flags ||| x } where
  conns := rfl
  phases := rfl
  flags f h := by
    rw [State.flagSet] at h
    rw [State.flagSet, BitVec.getLsbD_or, h, Bool.true_or]

theorem setFlagIf (s : State) (b : Bool) (f : Flag) : s.Follows (s.setFlagIf b f) := by
  rw [setFlagIf_eq]
  exact raised s _

theorem concludePlan (s : State) : s.Follows s.concludePlan := by
  unfold State.concludePlan
  split
  · exact refl s
  · split
    next p _ _ =>
      have hflagged : s.Follows ((s.offerOutcome s.planner.intentNo true p.reported).setFlagIf s.isActive .planConcluded) :=
        (setFlagIf _ _ _).after (by simp) (by simp) (by simp)
      exact hflagged.before (by simp) (by simp) (by simp)
    · exact refl s

theorem planResult (s : State) (pos : Nat) (r : MoveResult) : s.Follows (s.planResult pos r) := by
  unfold State.planResult
  split
  · exact refl s
  · split
    · exact (concludePlan _).after rfl rfl rfl
    · exact refl s

theorem onSetback (s : State) (n : Noted) : s.Follows (s.onSetback n) := by
  unfold State.onSetback
  split
  · exact refl s
  · split <;> exact of_flags (by simp) (by simp) (by simp)
  · exact of_flags (by simp) (by simp) (by simp)
  · exact of_flags (by simp) (by simp) (by simp)
  · exact (concludePlan (s.modPlanner fun p => { p with plan := p.plan.map (Plan.ceased s.planMoveInFlight) })).after rfl rfl rfl

theorem issueHold (s : State) (d : Nat) (r : Reason) : s.Follows (s.issueHold d r) := by
  have hoffered : s.Follows ((s.modPlanner fun p => { p with ownHold := max p.ownHold d }).offerHold d r) :=
    of_flags (by simp) (by simp) (by simp)
  unfold State.issueHold
  split
  · exact hoffered
  · split
    · exact hoffered.trans (onSetback _ _)
    · exact hoffered

theorem rescueEmptied (s : State) : s.Follows s.rescueEmptied := by
  unfold State.rescueEmptied
  split
  · have hflagged : s.Follows (s.setFlag .rescueConcluded) := raised s _
    exact hflagged.before (by simp) (by simp) (by simp)
  · exact refl s

end State.Follows

/-! ### The arbiter with no phase PRESENT (R60 to R63) -/

/-- A request that the arbiter has taken with no phase PRESENT: for a due member, or an inventory query. -/
def State.TookDue (s : State) : Prop :=
  match s.engine.req with
  | some (.recovery i _ _) | some (.check i _) => ∃ k, (s.conn i).member = some k ∧ k.retry = 0
  | some (.move _) => False
  | some (.inventory _ _) | none => True

theorem tookDue_free (h : s.engine.req = none) : s.TookDue := by
  rw [State.TookDue, h]
  trivial

theorem dueMember_due {k : RecKind} (h : s.dueMember = some (i, k)) : ∃ k, (s.conn i).member = some k ∧ k.retry = 0 := by
  obtain ⟨j, -, hj⟩ := List.exists_of_findSome?_eq_some h
  split at hj
  next x hx =>
    split at hj
    next hdue =>
      obtain rfl : j = i := congrArg Prod.fst (Option.some.inj hj)
      exact ⟨x, hx, hdue⟩
    next => cases hj
  next => cases hj

theorem takeMember_due {k : RecKind} (h : s.dueMember = some (i, k)) : s.Follows (s.takeMember i k) ∧ (s.takeMember i k).TookDue := by
  refine ⟨.of_flags (by simp) (by simp) (by simp), ?_⟩
  cases k <;> exact dueMember_due h

theorem takeInventory_due (hfree : s.engine.req = none) : s.Follows s.takeInventory ∧ s.takeInventory.TookDue := by
  refine ⟨.of_flags (by simp) (by simp) (by simp), ?_⟩
  unfold State.takeInventory
  split
  · trivial
  · exact tookDue_free hfree

/-- With no phase PRESENT a rescue entry is dismissed (R55, R63). -/
theorem takeRescue_dark (hdark : ∀ q, s.present q = false) (x : RescueEntry) :
    s.Follows (s.takeRescue x) ∧ (s.takeRescue x).engine.req = s.engine.req := by
  have hnone (p : Phase) :
      (s.modEngine fun e => { e with rescue := e.rescue.tail }).rescueTarget x.conn p x.cur = none :=
    rescueTarget_eq_none fun y => by
      have hy : (s.modEngine fun e => { e with rescue := e.rescue.tail }).present y = false := hdark y
      rw [hy, Bool.and_false, Bool.false_and]
  simp only [State.takeRescue]
  split
  · exact ⟨(State.Follows.rescueEmptied _).after rfl rfl rfl, State.rescueEmptied_req _⟩
  · rw [hnone]
    have hflagged : s.Follows ((s.modEngine fun e => { e with rescue := e.rescue.tail }).setFlag .rescueIncomplete) :=
      (State.Follows.raised _ _).after rfl rfl rfl
    exact ⟨hflagged.trans (.rescueEmptied _), State.rescueEmptied_req _⟩

/-- With no phase PRESENT a plan move is SKIPPED (R52, R62). -/
theorem takePlanMove_dark (hdark : ∀ q, s.present q = false) (pos : Nat) (x : Move) :
    s.takePlanMove pos x = s.planResult pos .skipped := by
  refine if_neg fun h => ?_
  have hcheck := h.1
  simp [State.moveCheck, State.candidate, hdark] at hcheck

theorem present_of_follows (h : s.Follows t) (q : Phase) : t.present q = s.present q := by
  rw [State.present, State.present, h.phases]

theorem arbiter_dark (n : Nat) (hdark : ∀ q, s.present q = false) (hfree : s.engine.req = none) :
    s.Follows (s.arbiter n) ∧ (s.arbiter n).TookDue := by
  have hstay : s.Follows s ∧ s.TookDue := ⟨.refl s, tookDue_free hfree⟩
  induction n generalizing s with
  | zero => exact hstay
  | succ n ih =>
    have hagain {u : State} (hu : s.Follows u) (hreq : u.engine.req = s.engine.req) :
        s.Follows (u.arbiter n) ∧ (u.arbiter n).TookDue := by
      obtain ⟨hfollows, hdue⟩ := ih (s := u) (fun q => (present_of_follows hu q).trans (hdark q)) (hreq.trans hfree)
        ⟨.refl u, tookDue_free (hreq.trans hfree)⟩
      exact ⟨hu.trans hfollows, hdue⟩
    unfold State.arbiter
    rw [hfree, if_neg (by simp)]
    cases s.mode with
    | loading | configFault | blackout => exact hstay
    | inventory => exact takeInventory_due hfree
    | listenOnly =>
      cases hdue : s.dueMember with
      | none => exact hstay
      | some k => exact takeMember_due hdue
    | active =>
      cases hdue : s.dueMember with
      | some k => exact takeMember_due hdue
      | none =>
        cases s.engine.rescue with
        | cons x _ => exact hagain (takeRescue_dark hdark x).1 (takeRescue_dark hdark x).2
        | nil =>
          cases s.offeredMove with
          | none => exact hstay
          | some k =>
            refine hagain ?_ ?_
            · rw [takePlanMove_dark hdark]
              exact .planResult s k.1 .skipped
            · rw [takePlanMove_dark hdark]
              simp

theorem arbitrate_dark (hdark : ∀ q, s.present q = false) (hfree : s.engine.req = none) :
    s.Follows s.arbitrate ∧ s.arbitrate.TookDue := arbiter_dark _ hdark hfree

/-! ### Conclusions with no phase PRESENT (R69, R72, R73) -/

theorem recordConclusion_follows (m : MoveReq) (k : Conclusion) (s : State) :
    (s.modConn m.conn (Conn.conclude m.rescue s.conf.dwell (s.allows m.conn) k)).Follows (s.recordConclusion m k) := by
  refine .of_flags ?_ (by simp) (by simp)
  simp only [State.recordConclusion]
  split <;> split <;> simp

theorem concludeMove_dark (hdark : ∀ q, s.present q = false) (m : MoveReq) (k : Conclusion) (silent holdAsked : Bool) :
    (s.modConn m.conn (Conn.conclude m.rescue s.conf.dwell (s.allows m.conn) k)).Follows (s.concludeMove m k silent holdAsked)
      ∧ (s.concludeMove m k silent holdAsked).TookDue := by
  rw [concludeMove_eq]
  dsimp only
  have hflagged : (s.modConn m.conn (Conn.conclude m.rescue s.conf.dwell (s.allows m.conn) k)).Follows
      (((s.recordConclusion m k).flagConclusion m.rescue (k.outside (s.allows m.conn)) silent k).setReq none) := by
    rw [flagConclusion_eq]
    exact ((recordConclusion_follows m k s).trans (.raised _ _)).before rfl rfl rfl
  have hfree : (((s.recordConclusion m k).flagConclusion m.rescue (k.outside (s.allows m.conn)) silent k).setReq none).engine.req
      = none := rfl
  generalize ((s.recordConclusion m k).flagConclusion m.rescue (k.outside (s.allows m.conn)) silent k).setReq none = t
    at hflagged hfree ⊢
  have htold : t.Follows (if m.rescue then t.rescueEmptied else t.planResult m.pos k.result)
      ∧ (if m.rescue then t.rescueEmptied else t.planResult m.pos k.result).engine.req = none := by
    split
    · exact ⟨.rescueEmptied t, (State.rescueEmptied_req t).trans hfree⟩
    · exact ⟨.planResult t _ _, by simpa using hfree⟩
  generalize (if m.rescue then t.rescueEmptied else t.planResult m.pos k.result) = u at htold ⊢
  obtain ⟨htold, hu⟩ := htold
  have hheld : u.Follows (if holdAsked ∧ u.isActive then u.issueHold u.conf.holdTime .darkConnection else u)
      ∧ (if holdAsked ∧ u.isActive then u.issueHold u.conf.holdTime .darkConnection else u).engine.req = none := by
    split
    · exact ⟨.issueHold u _ _, by simpa using hu⟩
    · exact ⟨.refl u, hu⟩
  generalize (if holdAsked ∧ u.isActive then u.issueHold u.conf.holdTime .darkConnection else u) = v at hheld ⊢
  obtain ⟨hheld, hv⟩ := hheld
  have hall := (hflagged.trans htold).trans hheld
  obtain ⟨hfollows, hdue⟩ := arbitrate_dark (s := v) (fun q => (present_of_follows hall q).trans (hdark q)) hv
  exact ⟨hall.trans hfollows, hdue⟩

/-- A FALLBACK entered with no phase PRESENT fails (R68). -/
theorem enterFallback_dark (hdark : ∀ q, s.present q = false) (m : MoveReq) : s.enterFallback m = s.failFallback m := by
  have hnone : s.fallbackTarget m = none := by simp [State.fallbackTarget, hdark]
  rw [State.enterFallback, hnone]

theorem attemptFailed_dark (hdark : ∀ q, s.present q = false) (i : Nat) :
    (s.modConn i Conn.attemptFailed).Follows (s.attemptFailed i) ∧ (s.attemptFailed i).TookDue := by
  rw [State.attemptFailed, State.finishRecovery, appendStranded_eq]
  dsimp only
  generalize decide (maxAttempts ≤ (s.conn i).attempts + 1) = locked
  have hflagged := State.Follows.setFlagIf (s.modConn i Conn.attemptFailed) locked .connectionDark
  generalize (s.modConn i Conn.attemptFailed).setFlagIf locked .connectionDark = t at hflagged ⊢
  have hbefore : (s.modConn i Conn.attemptFailed).Follows
      { t.setReq none with
        engine := { (t.setReq none).engine with rescue := (t.setReq none).engine.rescue ++ (t.setReq none).stranded i } } :=
    hflagged.before rfl rfl rfl
  obtain ⟨hfollows, hdue⟩ := arbitrate_dark (fun q => (present_of_follows hbefore q).trans (hdark q)) rfl
  exact ⟨hbefore.trans hfollows, hdue⟩

/-! ### What the entry to BLACKOUT makes of the request in flight (R80) -/

/-- The records when the request in flight is abandoned. -/
def State.abandoned (s : State) : State :=
  match s.engine.req with
  | some (.move m) => s.modConn m.conn (Conn.conclude m.rescue s.conf.dwell (s.allows m.conn) m.abandoned)
  | some (.recovery i _ _) => s.modConn i (Conn.setRetry retryWait)
  | some (.check i _) => s.modConn i (Conn.setRetry 0)
  | some (.inventory _ _) | none => s

theorem abandoned_flags (s : State) : s.abandoned.flags = s.flags := by
  unfold State.abandoned
  split <;> rfl

theorem abandoned_move (h : s.engine.req = some (.move m)) :
    s.abandoned = s.modConn m.conn (Conn.conclude m.rescue s.conf.dwell (s.allows m.conn) m.abandoned) := by
  rw [State.abandoned, h]

theorem abandoned_recovery {r : RecStep} {n : Nat} (h : s.engine.req = some (.recovery i r n)) :
    s.abandoned = s.modConn i (Conn.setRetry retryWait) := by rw [State.abandoned, h]

theorem abandoned_check {n : Nat} (h : s.engine.req = some (.check i n)) : s.abandoned = s.modConn i (Conn.setRetry 0) := by
  rw [State.abandoned, h]

/-- A request just taken for a due member leaves every other connection as it is. -/
theorem abandoned_tookDue (h : s.TookDue) (hi : ∀ k, (s.conn i).member = some k → k.retry ≠ 0) : s.abandoned.conn i = s.conn i := by
  have hother {j : Nat} {f : Conn → Conn} (hj : ∃ k, (s.conn j).member = some k ∧ k.retry = 0) :
      (s.modConn j f).conn i = s.conn i := by
    obtain ⟨k, hk, hdue⟩ := hj
    exact conn_modConn_of_ne (fun hij => hi k (by rw [hij]; exact hk) hdue) f
  rw [State.TookDue] at h
  unfold State.abandoned
  cases hr : s.engine.req with
  | none => rfl
  | some r =>
    rw [hr] at h
    cases r with
    | move => exact h.elim
    | recovery | check => exact hother h
    | inventory => rfl

/-! ### The entry to BLACKOUT (R107, R146, R173) -/

theorem arbitrate_blackout (h : s.mode = .blackout) : s.arbitrate = s := by
  unfold State.arbitrate State.arbiter
  rw [h]
  exact ite_self s

/-- In BLACKOUT nobody takes a conclusion's results. -/
theorem concludeMove_blackout (hmode : s.mode = .blackout) (hq : s.Quiet) (m : MoveReq) (k : Conclusion) (silent : Bool) :
    s.concludeMove m k silent false =
      ((s.recordConclusion m k).flagConclusion m.rescue (k.outside (s.allows m.conn)) silent k).setReq none := by
  have hquiet : (((s.recordConclusion m k).flagConclusion m.rescue (k.outside (s.allows m.conn)) silent k).setReq none).Quiet := by
    have hengine := recordConclusion_engine_of_not_active (s := s) (by simp [State.isActive, hmode]) m k
    simpa [State.Quiet, State.setReq, State.modEngine, hengine] using hq
  rw [concludeMove_eq]
  dsimp only
  rw [hquiet.rescueEmptied, hquiet.planResult, ite_self, if_neg (fun h => Bool.false_ne_true h.1),
    arbitrate_blackout (by simpa [State.mode] using hmode)]

theorem abandonRequest_blackout (hmode : s.mode = .blackout) (hq : s.Quiet) :
    s.abandoned.Follows s.abandonRequest ∧ s.abandonRequest.engine.req = none ∧ s.abandonRequest.Quiet := by
  unfold State.abandoned State.abandonRequest
  cases hr : s.engine.req with
  | none => exact ⟨.refl s, hr, hq⟩
  | some r =>
    cases r with
    | move m =>
      dsimp only
      rw [concludeMove_blackout hmode hq]
      have hengine := recordConclusion_engine_of_not_active (s := s) (by simp [State.isActive, hmode]) m m.abandoned
      refine ⟨?_, rfl, by simpa [State.Quiet, State.setReq, State.modEngine, hengine] using hq⟩
      rw [flagConclusion_eq]
      exact ((recordConclusion_follows m _ s).trans (.raised _ _)).before rfl rfl rfl
    | recovery | check | inventory => exact ⟨.of_flags rfl rfl rfl, rfl, hq⟩

/-- The station in BLACKOUT before its request is abandoned. -/
def State.blackedOut (s : State) : State :=
  { s with
    station := { s.station with mode := .blackout, listenOnly := none }
    line := (s.clearLine).line
    planner := s.planner.leaveActive
    engine := { s.engine with rescue := [], rescueDone := false } }

theorem enterBlackout_eq (s : State) : s.enterBlackout = s.blackedOut.abandonRequest := rfl

theorem blackedOut_quiet (s : State) : s.blackedOut.Quiet := ⟨rfl, Planner.leaveActive_atRest _, rfl, rfl⟩

/-- The entry to BLACKOUT leaves the station quiet and the engine FREE. -/
theorem enterBlackout_leaves (s : State) :
    s.abandoned.Follows s.enterBlackout ∧ s.enterBlackout.engine.req = none ∧ s.enterBlackout.Quiet := by
  obtain ⟨hfollows, hreq, hquiet⟩ := abandonRequest_blackout (s := s.blackedOut) rfl (blackedOut_quiet s)
  have hsame : s.abandoned.Follows s.blackedOut.abandoned := by
    unfold State.abandoned
    rw [show s.blackedOut.engine.req = s.engine.req from rfl]
    split <;> exact .of_flags rfl rfl rfl
  exact ⟨hsame.trans hfollows, hreq, hquiet⟩

theorem enterBlackout_station (s : State) :
    s.enterBlackout.station = { s.station with mode := .blackout, listenOnly := none } := by
  rw [enterBlackout_eq]
  simp [State.blackedOut]

/-- The number last announced is no part of what a return to IDLE or a conclusion changes. -/
theorem intentNo_plannerKept (n : Byte) : PlannerKept fun p => p.intentNo = n where
  cleared _ h := h
  plan _ _ h := h
  noted _ _ h := h
  last _ _ h := h
  ownHold _ _ h := h
  evalT _ _ h := h

/-- The engine leaves the local vector and the measurement's freshness alone. -/
theorem vec_keptByEngine (v : Vec) (b : Bool) : KeptByEngine fun s => s.meas.vec = v ∧ s.meas.fresh = b where
  ignored h _ _ hmeas _ _ _ _ _ _ := by rw [hmeas]; exact h
  setReq h _ := h
  inventory _ _ h _ := h
  send h _ := h
  modConn _ h _ := h
  modHeld _ h := h
  popRescue h := h
  rescueEmptied h := by simpa using h
  recordConclusion m k h := by
    simp only [State.recordConclusion]
    split <;> split <;> simpa using h
  appendStranded i h := by simpa using h
  planResult pos r h := by simpa using h
  issueHold r h _ _ := by simpa using h

/-! ### The loss taken first (R79, R146) -/

/-- The engine's answer to the loss leaves the records so that abandoning its request then comes to the same, but that a recovery waiting
for the lost phase has had its attempt counted. -/
structure State.LossTaken (p : Phase) (s u : State) : Prop where
  phases : u.phases = s.phases
  flags : ∀ f, s.flagSet f = true → u.flagSet f = true
  move : ∀ m, s.engine.req = some (.move m) → m.conn < s.conns.length → (s.conn m.conn).member = none →
    u.abandoned.conn m.conn = s.abandoned.conn m.conn
  recovery : ∀ i r n, s.engine.req = some (.recovery i r n) →
    u.abandoned.conn i = s.abandoned.conn i ∨ (r = .wait p ∧ u.abandoned.conn i = (s.conn i).attemptFailed)
  check : ∀ i n, s.engine.req = some (.check i n) → u.abandoned.conn i = s.abandoned.conn i

theorem lossTaken_self (p : Phase) (s : State) : s.LossTaken p s where
  phases := rfl
  flags _ h := h
  move _ _ _ _ := rfl
  recovery _ _ _ _ := .inl rfl
  check _ _ _ := rfl

/-- What concerns a move alone. -/
theorem lossTaken_move {p : Phase} (hr : s.engine.req = some (.move m)) (hphases : u.phases = s.phases)
    (hflags : ∀ f, s.flagSet f = true → u.flagSet f = true)
    (hmove : m.conn < s.conns.length → (s.conn m.conn).member = none → u.abandoned.conn m.conn = s.abandoned.conn m.conn) :
    s.LossTaken p u where
  phases := hphases
  flags := hflags
  move m' hm' := by
    obtain rfl : m = m' := Req.move.inj (Option.some.inj (hr.symm.trans hm'))
    exact hmove
  recovery i r n h := by rw [hr] at h; cases h
  check i n h := by rw [hr] at h; cases h

/-- The record of a FALLBACK that fails is no due member's. -/
theorem failedDark_record {c : Conn} (hmember : c.member = none) (rescue : Bool) (dwell : Nat) (allowed : Phase → Bool) :
    Conn.conclude rescue dwell allowed .failedDark c =
      { c with note := none, st := .dark, cur := none, attempts := 0, member := some ⟨.recover, 10⟩ } := by
  simp [Conn.conclude, Conn.goDark, Conn.joinSet, hmember, retryWait]

theorem failFallback_lossTaken (p : Phase) (hdark : ∀ q, s.present q = false) (hr : s.engine.req = some (.move m))
    (hm : m.abandoned = .failedDark) : s.LossTaken p (s.failFallback m) := by
  obtain ⟨hfollows, hdue⟩ := concludeMove_dark hdark m .failedDark false true
  refine lossTaken_move hr hfollows.phases hfollows.flags fun hlen hmember => ?_
  have hrecord : (s.failFallback m).conn m.conn = Conn.conclude m.rescue s.conf.dwell (s.allows m.conn) .failedDark (s.conn m.conn) :=
    (congrFun (conn_congr hfollows.conns) m.conn).trans (conn_modConn_self hlen _)
  have hkept : (s.failFallback m).abandoned.conn m.conn = (s.failFallback m).conn m.conn := by
    refine abandoned_tookDue hdue fun k hk => ?_
    rw [hrecord, failedDark_record hmember] at hk
    obtain rfl := Option.some.inj hk
    exact Nat.succ_ne_zero 9
  rw [hkept, hrecord, abandoned_move hr, conn_modConn_self hlen, hm]

/-- An index without a record reads as one that is not configured. -/
theorem conn_of_length_le (h : s.conns.length ≤ i) : s.conn i = Conn.unconfigured := by
  rw [State.conn, List.getD_eq_getElem?_getD, List.getElem?_eq_none h]
  rfl

theorem attemptFailed_lossTaken {p : Phase} {n : Nat} (hdark : ∀ q, s.present q = false)
    (hr : s.engine.req = some (.recovery i (.wait p) n)) : s.LossTaken p (s.attemptFailed i) := by
  obtain ⟨hfollows, hdue⟩ := attemptFailed_dark hdark i
  have hrecord (hlen : i < s.conns.length) : (s.attemptFailed i).conn i = (s.conn i).attemptFailed :=
    (congrFun (conn_congr hfollows.conns) i).trans (conn_modConn_self hlen _)
  have hunrecorded (hlen : ¬i < s.conns.length) : (s.attemptFailed i).conn i = s.conn i := by
    refine (congrFun (conn_congr hfollows.conns) i).trans ?_
    rw [conn_modConn, if_neg fun h => hlen h.2]
  have hwaits : ∀ k, ((s.attemptFailed i).conn i).member = some k → k.retry ≠ 0 := by
    intro k hk
    by_cases hlen : i < s.conns.length
    · rw [hrecord hlen, Conn.attemptFailed] at hk
      split at hk
      · obtain ⟨x, -, rfl⟩ := Option.map_eq_some_iff.mp hk
        exact Nat.succ_ne_zero 9
      · cases hk
    · rw [hunrecorded hlen, conn_of_length_le (by omega)] at hk
      cases hk
  have hkept := abandoned_tookDue hdue hwaits
  exact
    { phases := hfollows.phases
      flags := hfollows.flags
      move := fun m h => by rw [hr] at h; cases h
      recovery := fun j r k h => by
        rw [hr] at h
        obtain ⟨rfl, rfl, rfl⟩ := Req.recovery.inj (Option.some.inj h)
        rw [hkept]
        by_cases hlen : i < s.conns.length
        · exact .inr ⟨rfl, hrecord hlen⟩
        · refine .inl ?_
          rw [hunrecorded hlen, abandoned_recovery hr, conn_modConn, if_neg fun h => hlen h.2]
      check := fun j k h => by rw [hr] at h; cases h }

/-- The engine takes the loss with no phase PRESENT (R79). -/
theorem engineLoss_lossTaken (p : Phase) (hdark : ∀ q, s.present q = false) : s.LossTaken p (s.engineLoss p) := by
  have hself := lossTaken_self p s
  unfold State.engineLoss
  cases hr : s.engine.req with
  | none =>
    obtain ⟨hfollows, -⟩ := arbitrate_dark hdark hr
    exact
      { phases := hfollows.phases
        flags := hfollows.flags
        move := fun m h => by rw [hr] at h; cases h
        recovery := fun i r n h => by rw [hr] at h; cases h
        check := fun i n h => by rw [hr] at h; cases h }
  | some r =>
    cases r with
    | move m =>
      dsimp only
      cases hs : m.step with
      | breakWait =>
        refine of_ite_of_imp (fun _ => ?_) fun _ => hself
        refine lossTaken_move hr rfl (fun _ h => h) fun _ _ => ?_
        rw [abandoned_move hr, abandoned_move (s := s.sendBreak m) (m := { m with step := .breakSent, cycles := breakCycles }) rfl]
        simp only [MoveReq.abandoned, hs]
        rfl
      | gap =>
        refine of_ite_of_imp (fun _ => ?_) fun _ => hself
        rw [enterFallback_dark hdark]
        exact failFallback_lossTaken p hdark hr (by rw [MoveReq.abandoned, hs])
      | fbWait x =>
        exact of_ite_of_imp (fun _ => failFallback_lossTaken p hdark hr (by rw [MoveReq.abandoned, hs])) fun _ => hself
      | arming | breakSent | breakQuery | making | fbMake | settling => exact hself
    | recovery i st n =>
      cases st with
      | wait x =>
        refine of_ite_of_imp (fun hx => ?_) fun _ => hself
        rw [hx] at hr
        exact attemptFailed_lossTaken hdark hr
      | query | make => exact hself
    | check | inventory => exact hself

/-! ### The last loss, in either order (R5, R146) -/

/-- What the abandoning of a request makes of the records depends on the request, the records and the configuration. -/
theorem abandoned_conn_congr (hreq : t.engine.req = s.engine.req) (hconns : t.conns = s.conns) (hcfg : t.cfg = s.cfg) :
    t.abandoned.conn = s.abandoned.conn := by
  refine conn_congr ?_
  have hconf : t.conf = s.conf := by rw [State.conf, State.conf, hcfg]
  unfold State.abandoned
  rw [hreq, hconf, allows_congr hcfg]
  split <;> simp [hconns]

/-- The loss met from a state with the same records and request. -/
theorem State.LossTaken.of_base {p : Phase} (h : t.LossTaken p u) (hreq : t.engine.req = s.engine.req) (hconns : t.conns = s.conns)
    (hcfg : t.cfg = s.cfg) (hphases : t.phases = s.phases) (hflags : t.flags = s.flags) : s.LossTaken p u := by
  have hconn := conn_congr hconns
  have habandoned := abandoned_conn_congr hreq hconns hcfg
  exact
    { phases := h.phases.trans hphases
      flags := fun f hf => h.flags f (by rwa [State.flagSet, hflags])
      move := fun m hm hlen hmember => by
        rw [← habandoned]
        exact h.move m (hreq.trans hm) (by rwa [hconns]) (by rwa [hconn])
      recovery := fun i r n hr => by
        rw [← habandoned, ← hconn]
        exact h.recovery i r n (hreq.trans hr)
      check := fun i n hr => by
        rw [← habandoned]
        exact h.check i n (hreq.trans hr) }

/-- The planner takes the loss after the engine: records and request stay. -/
theorem State.LossTaken.plannerPhaseLoss {p : Phase} (h : s.LossTaken p t) : s.LossTaken p t.plannerPhaseLoss := by
  have habandoned := abandoned_conn_congr (s := t) (t := t.plannerPhaseLoss) (by simp) (by simp) (by simp)
  exact
    { phases := by simpa using h.phases
      flags := fun f hf => (State.Follows.onSetback t .phaseLoss).flags f (h.flags f hf)
      move := by
        rw [habandoned]
        exact h.move
      recovery := by
        rw [habandoned]
        exact h.recovery
      check := by
        rw [habandoned]
        exact h.check }

/-- What the loss of the last phase leaves as it was, in either order. -/
structure State.LossKept (s t : State) : Prop where
  cfg : t.cfg = s.cfg
  budget : t.budget = s.budget
  nbrs : t.nbrs = s.nbrs
  comps : t.comps = s.comps
  svc : t.svc = s.svc
  intentNo : t.planner.intentNo = s.planner.intentNo
  vec : t.meas.vec = s.meas.vec
  fresh : t.meas.fresh = s.meas.fresh

theorem State.LossKept.trans (h : s.LossKept t) (h' : t.LossKept u) : s.LossKept u where
  cfg := h'.cfg.trans h.cfg
  budget := h'.budget.trans h.budget
  nbrs := h'.nbrs.trans h.nbrs
  comps := h'.comps.trans h.comps
  svc := h'.svc.trans h.svc
  intentNo := h'.intentNo.trans h.intentNo
  vec := h'.vec.trans h.vec
  fresh := h'.fresh.trans h.fresh

theorem lossKept_receivers (p : Phase) (s : State) :
    s.LossKept (((s.drawn.appendSelected p).engineLoss p).plannerPhaseLoss) := by
  have hintent : ((s.drawn.appendSelected p).engineLoss p).planner.intentNo = s.planner.intentNo :=
    (intentNo_plannerKept s.planner.intentNo).keptByEngine.engineLoss (s := s.drawn.appendSelected p) (by simp) p
  obtain ⟨hvec, hfresh⟩ :=
    (vec_keptByEngine s.meas.vec s.meas.fresh).engineLoss (s := s.drawn.appendSelected p) (by simp) p
  exact
    { cfg := by simp
      budget := by simp
      nbrs := by simp
      comps := by simp
      svc := by simp
      intentNo := (intentNo_plannerKept s.planner.intentNo).onSetback hintent .phaseLoss
      vec := by simpa using hvec
      fresh := by simpa using hfresh }

/-- The loss of the last phase, before its receivers take it. -/
def State.lastLost (s : State) (p : Phase) : State :=
  ((s.modPhase p fun x => { x with present := false, watch := false, returns := 0 }).setFlag .phaseLost).chooseRef

theorem lastLost_dark {p : Phase} (hothers : ∀ q, q ≠ p → s.present q = false) (q : Phase) : (s.lastLost p).present q = false := by
  have hpresent : (s.lastLost p).present q
      = (s.modPhase p fun x => { x with present := false, watch := false, returns := 0 }).present q := by
    simp [State.lastLost, State.present]
  rw [hpresent, present_modPhase]
  split
  · rfl
  next hq => exact hothers q (Ne.symm hq)

theorem lastLost_flagged (p : Phase) (s : State) : (s.lastLost p).flagSet .phaseLost = true := by
  have hflags : (s.lastLost p).flags = s.flags ||| BitVec.twoPow 19 5 := by
    simp [State.lastLost, Flag.code]
  rw [State.flagSet, hflags, BitVec.getLsbD_or]
  simp [Flag.code]

/-- With no phase PRESENT there is no reference, and the tick source of a station that had one is HOLDOVER (R4, R5). -/
theorem chooseRef_dark (hdark : ∀ q, s.present q = false) :
    s.chooseRef.time.ref = none ∧ (s.time.ref ≠ none → s.chooseRef.time.source = .holdover) := by
  have hnone : s.chosenRef = none := by simp [State.chosenRef, hdark]
  unfold State.chooseRef
  rw [hnone]
  dsimp only
  split
  next href => exact ⟨href.symm, fun h => absurd href.symm h⟩
  next => exact ⟨rfl, fun _ => rfl⟩

theorem lastLost_time {p : Phase} (hothers : ∀ q, q ≠ p → s.present q = false) :
    (s.lastLost p).time.ref = none ∧ (s.time.ref ≠ none → (s.lastLost p).time.source = .holdover) :=
  chooseRef_dark fun q => by simpa [State.lastLost, State.present] using lastLost_dark hothers q

/-- Whichever order the receivers take it in, the last loss ends with the entry to BLACKOUT (R146). -/
theorem phaseLoss_last {p : Phase} (hmode : s.mode = .active ∨ s.mode = .listenOnly) (hothers : ∀ q, q ≠ p → s.present q = false) :
    ∃ v, s.phaseLoss p = v.enterBlackout ∧ (s.lastLost p).LossTaken p v ∧ s.LossKept v
      ∧ v.station = s.station ∧ v.time = (s.lastLost p).time := by
  have hdark := lastLost_dark hothers
  have hkept : s.LossKept (s.lastLost p) := by
    constructor <;> simp [State.lastLost]
  have hstation : (s.lastLost p).station = s.station := by simp [State.lastLost]
  have hleads : (s.lastLost p).lossLeadsToBlackout = true := by
    have hm : (s.lastLost p).mode = s.mode := by simp [State.lastLost, State.mode]
    rcases hmode with h | h <;> simp [State.lossLeadsToBlackout, State.anyPresent, hdark, hm, h]
  have hloss : s.phaseLoss p = if (s.lastLost p).drawValue 1 = 0 then (s.lastLost p).drawn.enterBlackout
      else ((((s.lastLost p).drawn.appendSelected p).engineLoss p).plannerPhaseLoss).enterBlackout := if_pos hleads
  rw [hloss]
  split
  · refine ⟨_, rfl, ?_, hkept.trans ⟨rfl, rfl, rfl, rfl, rfl, rfl, rfl, rfl⟩, hstation, rfl⟩
    exact (lossTaken_self p (s.lastLost p).drawn).of_base rfl rfl rfl rfl rfl
  · refine ⟨_, rfl, ?_, hkept.trans (lossKept_receivers p _), by simpa using hstation, by simp⟩
    refine State.LossTaken.plannerPhaseLoss ?_
    have hdark' (q : Phase) : ((s.lastLost p).drawn.appendSelected p).present q = false := by
      simpa [State.present] using hdark q
    refine (engineLoss_lossTaken p hdark').of_base ?_ (by simp) (by simp) (by simp) (by simp)
    rw [appendSelected_eq]
    rfl

theorem lossKept_blackout (s : State) : s.LossKept s.enterBlackout := by
  obtain ⟨hvec, hfresh⟩ := (vec_keptByEngine s.meas.vec s.meas.fresh).abandonRequest (s := s.blackedOut) ⟨rfl, rfl⟩
  exact
    { cfg := by simp
      budget := by simp
      nbrs := by simp
      comps := by simp
      svc := by simp
      intentNo := (intentNo_plannerKept s.planner.intentNo).keptByEngine.abandonRequest (s := s.blackedOut) rfl
      vec := hvec
      fresh := hfresh }

/-! ### The records the statement names (R80) -/

/-- An abandoned move's record. -/
theorem abandoned_conn_move (hr : s.engine.req = some (.move m)) (hlen : m.conn < s.conns.length)
    (hmember : (s.conn m.conn).member = none) :
    s.abandoned.conn m.conn =
      let c := s.conn m.conn
      match m.step with
      | .arming | .breakWait | .breakSent | .breakQuery => { c with note := none, st := .faulted, cur := some m.src }
      | .gap | .making | .fbWait _ | .fbMake _ =>
        { c with note := none, st := .dark, cur := none, attempts := 0, member := some ⟨.recover, 10⟩ }
      | .settling =>
        { c with
          note := none
          st := .resting
          dwell := if m.rescue then c.dwell else s.conf.dwell
          unticked := m.rescue && c.dwell == 0 } := by
  rw [abandoned_move hr, conn_modConn_self hlen, MoveReq.abandoned]
  cases m.step with
  | arming | breakWait | breakSent | breakQuery | settling => rfl
  | gap | making | fbWait | fbMake => exact failedDark_record hmember _ _ _

/-- The retry of a member set, also where there is no record to change. -/
theorem conn_setRetry (n : Nat) (i : Nat) (s : State) :
    (s.modConn i (Conn.setRetry n)).conn i = { s.conn i with member := (s.conn i).member.map fun k => { k with retry := n } } := by
  by_cases hlen : i < s.conns.length
  · exact conn_modConn_self hlen _
  · rw [conn_modConn, if_neg fun h => hlen h.2, conn_of_length_le (by omega)]
    rfl

end Sys2Proof.Machine

namespace Sys2Proof.Proofs
open Sys2Proof.Machine

/-- Settles O11: each order leaves the records so that the entry to BLACKOUT comes to the same. -/
theorem lastPhaseLossEntersBlackout : Obligations.LastPhaseLossEntersBlackout := by
  intro p s hp hmode hpresent hwatch hothers
  have hrow : exec (.crossingWatchExpiry p) s = .next (s.phaseLoss p) :=
    next_powered hp (f := fun t => if (t.phases.get p).watch ∧ t.present p then t.phaseLoss p else t) (if_pos ⟨hwatch, hpresent⟩)
  obtain ⟨v, hv, htaken, hkept, hstation, hvtime⟩ := phaseLoss_last hmode hothers
  obtain ⟨hstate, hreq, hquiet⟩ := enterBlackout_leaves v
  have hall := hkept.trans (lossKept_blackout v)
  have hdark (q : Phase) : v.enterBlackout.present q = false := by
    have hphases : v.enterBlackout.phases = (s.lastLost p).phases := by simpa using htaken.phases
    rw [State.present, hphases]
    exact lastLost_dark hothers q
  have hflag : v.enterBlackout.flagSet .phaseLost = true := by
    refine hstate.flags _ ?_
    rw [State.flagSet, abandoned_flags]
    exact htaken.flags _ (lastLost_flagged p s)
  obtain ⟨href, hsource⟩ := lastLost_time hothers
  have hreqLost : (s.lastLost p).engine.req = s.engine.req := by simp [State.lastLost]
  have hconnsLost : (s.lastLost p).conns = s.conns := by simp [State.lastLost]
  have hcfgLost : (s.lastLost p).cfg = s.cfg := by simp [State.lastLost]
  have hconnLost := conn_congr hconnsLost
  have habandoned := abandoned_conn_congr hreqLost hconnsLost hcfgLost
  have hconn : v.enterBlackout.conn = v.abandoned.conn := conn_congr hstate.conns
  have htime : v.enterBlackout.time = (s.lastLost p).time := by simpa using hvtime
  rw [hrow, hv]
  obtain ⟨hline, hrest, hlist, hdone⟩ := hquiet
  refine ⟨_, rfl, ?_, ?_, ?_, ?_, ?_, hline, hrest, hreq, hlist, hdone, hflag, hall.cfg, hall.nbrs, hall.budget, hall.comps, hall.svc,
    ?_, ?_, hall.intentNo, hall.vec, hall.fresh, ?_, ?_, ?_⟩
  · rw [State.mode, enterBlackout_station]
  · rw [enterBlackout_station]
  · simp [State.anyPresent, hdark]
  · rw [htime]
    exact href
  · rw [htime]
    exact hsource
  · rw [enterBlackout_station, hstation]
  · rw [enterBlackout_station, hstation]
  · intro m hr hlen hmember
    rw [hconn, htaken.move m (hreqLost.trans hr) (by rwa [hconnsLost]) (by rwa [hconnLost]), habandoned]
    exact abandoned_conn_move hr hlen hmember
  · intro i r n hr
    have habandonedHere : s.abandoned.conn i = { s.conn i with member := (s.conn i).member.map fun k => { k with retry := 10 } } := by
      rw [abandoned_recovery hr]
      exact conn_setRetry _ _ _
    rw [hconn]
    refine (htaken.recovery i r n (hreqLost.trans hr)).imp (fun h => ?_) fun ⟨hwait, h⟩ => ⟨hwait, ?_⟩
    · rw [h, habandoned, habandonedHere]
    · rw [h, hconnLost, Conn.attemptFailed]
      by_cases hleft : (s.conn i).attempts < 2
      · rw [if_pos hleft]
        exact if_pos (Nat.succ_lt_succ hleft)
      · rw [if_neg hleft]
        exact if_neg fun h => hleft (Nat.lt_of_succ_lt_succ h)
  · intro i n hr
    rw [hconn, htaken.check i n (hreqLost.trans hr), habandoned, abandoned_check hr]
    exact conn_setRetry _ _ _

end Sys2Proof.Proofs
